-- ==== Sys2Proof/Word.lean ====
section
/-! DEFINITION. The words of the block: the byte, the 9-bit wire unit and the 4-bit host selector
(00_scope.md R10: every value is unsigned, bit 0 is the least significant). -/

namespace Sys2Proof

/-- 8 bits, bit 7 the most significant (R10). -/
abbrev Byte := BitVec 8

/-- One 9-bit group on the wire: bit 8 the discriminator, bits 7..0 the value (R60). -/
abbrev WireUnit := BitVec 9

/-- The host operation selector `op[3:0]` (R72). -/
abbrev Selector := BitVec 4

/-- `zeros(n)` of R10: a sequence of `n` zero bytes. -/
def zeros (n : Nat) : List Byte := List.replicate n 0

end Sys2Proof
end

