-- ==== Sys2Proof/Config.lean ====
section
/-! DEFINITION. What is fixed when the block is constructed (10_state.md R26, 00_scope.md R6 to R9), and the free
values: the answers the spec calls draws. The configuration is a plain record that State holds (R36 lists
it); no operation writes it. The free values are opaque constants: nothing can evaluate one. -/

namespace Sys2Proof

/-- `UNIT_BITS` (R7). -/
abbrev unitBits : Nat := 9
/-- `DISC_CMD` (R7): the discriminator of the command unit. -/
abbrev discCmd : Bool := false
/-- `DISC_DATA` (R7): the discriminator of a payload unit. -/
abbrev discData : Bool := true
/-- `BPP` (R6): bits per pixel, 16 grey levels. -/
abbrev bitsPerPixel : Nat := 4

/-- The 23 controller commands the block sends, by the spec's symbols, in the order of R70's table. -/
inductive Cmd where
  | displayOn | unlock | clockDiv | muxRatio | displayOffset | functionSel | startLine | remap
  | contrastMaster | contrastLevel | phaseLen | prechargeV | extVsl | vcomh | displayMode | partialExit
  | enhance | gpio | grayDefault | precharge2 | setColumn | setRow | writeRam
deriving DecidableEq, Repr, Inhabited

/-- The constants of R26. `cmdTable` is `CMD_TABLE`, one byte per command in R70's order, not assumed injective;
`handle` stands for the transport handle the host binds at construction. -/
structure Config where
  /-- `W`, the panel's width in pixels (R6). -/
  width     : Nat
  /-- `H`, the panel's height in pixels (R6). -/
  height    : Nat
  /-- `L_MAX`, the longest payload ENCODE and SEND accept (R9, D6). -/
  lMax      : Nat
  /-- `CMD_TABLE` (R8, R70). -/
  cmdTable  : Vector Byte 23
  /-- `COL_START` (R8, R67). -/
  colStart  : Byte
  /-- `COL_END` (R8, R67). -/
  colEnd    : Byte
  /-- `ROW_START` (R8, R67). -/
  rowStart  : Byte
  /-- `ROW_END` (R8, R67). -/
  rowEnd    : Byte
  /-- `INIT_TABLE` (R8, R106): (opcode, payload) pairs in sending order. -/
  initTable : List (Byte × List Byte)
  /-- The bound transport handle (R26 (e)). -/
  handle    : Nat
deriving DecidableEq, Repr

/-- `TErr` (R9): the value a transport error carries. The block never inspects it, so it is a bare token. -/
structure TErr where
  token : Nat
deriving DecidableEq, Repr, Inhabited

/-- What one `Transport.send` answers (R32, R100). -/
inductive Answer where
  | ok
  | error (e : TErr)
deriving DecidableEq, Repr, Inhabited

/-- FREE VALUE (notes/assumptions/5.md): the transport's answer to a frame after a log of earlier calls (R32). -/
opaque Config.transportDraw (handle : Nat) (tlog : List (List Byte × Answer)) (frame : List Byte) : Answer

/-- FREE VALUE (notes/assumptions/6.md): whether a transient buffer of `n` bytes is obtained at the given draw
number (R31). -/
opaque Config.allocDraw (n draw : Nat) : Bool

/-- FREE VALUE (notes/assumptions/7.md): which moment of the U_Build phase the read of PixelBuffer byte `i` falls
into, at the given draw number (R55). -/
opaque Config.raceDraw (draw i : Nat) : Nat

end Sys2Proof
end

