-- ==== Sys2Proof/Machine/Defaults.lean ====
section
/-! DEFINITION. Sizes derived from the geometry, admissible configurations, the opcode lookup, and the default
configuration of a freshly constructed block (00_scope.md R6, R8; 93_implementation_defined.md G2 to G4). -/

namespace Sys2Proof

/-- `ROW_BYTES = W / 2` (R6), the per-row byte stride (R132). -/
def Config.rowBytes (g : Config) : Nat := g.width / 2

/-- `PB_SIZE = W * H / 2` (R6). -/
def Config.pbSize (g : Config) : Nat := g.width * g.height / 2

/-- `PI_SIZE = W * H` (R6). -/
def Config.piSize (g : Config) : Nat := g.width * g.height

/-- `N_INIT = len(INIT_TABLE)` (R23). -/
def Config.nInit (g : Config) : Nat := g.initTable.length

/-- The geometry R6 requires: `W` even, `W >= 2`, `H >= 1`. -/
def Config.valid (g : Config) : Bool := g.width % 2 == 0 && 2 ≤ g.width && 1 ≤ g.height

/-- Every payload of INIT_TABLE is one SEND accepts (R101: `L <= L_MAX`). -/
def Config.initFits (g : Config) : Bool := g.initTable.all fun e => e.2.length ≤ g.lMax

/-- The payloads of the three sends of an UPDATE are ones SEND accepts (R101, R120, R121, R123). -/
def Config.updateFits (g : Config) : Bool := 2 ≤ g.lMax && g.piSize ≤ g.lMax

/-- A command's row in R70's table, counted from 0. -/
def Cmd.index : Cmd → Fin 23
  | .displayOn => 0 | .unlock => 1 | .clockDiv => 2 | .muxRatio => 3 | .displayOffset => 4 | .functionSel => 5
  | .startLine => 6 | .remap => 7 | .contrastMaster => 8 | .contrastLevel => 9 | .phaseLen => 10
  | .prechargeV => 11 | .extVsl => 12 | .vcomh => 13 | .displayMode => 14 | .partialExit => 15
  | .enhance => 16 | .gpio => 17 | .grayDefault => 18 | .precharge2 => 19 | .setColumn => 20
  | .setRow => 21 | .writeRam => 22

/-- `CMD_TABLE[name]` (R70). -/
def Config.opcode (g : Config) (c : Cmd) : Byte := g.cmdTable.get c.index

/-- The sending order of R106: 21 entries, display-on first and last. -/
def initOrder : List Cmd :=
  [.displayOn, .unlock, .clockDiv, .muxRatio, .displayOffset, .functionSel, .startLine,
   .remap, .contrastMaster, .contrastLevel, .phaseLen, .prechargeV, .extVsl, .vcomh,
   .displayMode, .partialExit, .enhance, .gpio, .grayDefault, .precharge2, .displayOn]

/-- PRESUMED (notes/assumptions/1.md): G2's opcode values; the source gives none. -/
def defaultCmdTable : Vector Byte 23 :=
  #v[0xAF, 0xFD, 0xB3, 0xCA, 0xA2, 0xAB, 0xA1, 0xA0, 0xC7, 0xC1, 0xB1, 0xBB, 0xB4, 0xBE, 0xA6, 0xA9,
     0xD1, 0xB5, 0xB9, 0xB6, 0x15, 0x75, 0x5C]

/-- PRESUMED (notes/assumptions/1.md): G3's payload bytes; the source gives none. -/
def defaultInitPayload : Cmd → List Byte
  | .unlock => [0x12] | .clockDiv => [0x91] | .muxRatio => [0x3F] | .displayOffset => [0x00]
  | .functionSel => [0x01] | .startLine => [0x00] | .remap => [0x16, 0x11] | .contrastMaster => [0x0F]
  | .contrastLevel => [0x9F] | .phaseLen => [0xE2] | .prechargeV => [0x1F] | .extVsl => [0xA0, 0xFD]
  | .vcomh => [0x04] | .enhance => [0x82, 0x20] | .gpio => [0x00] | .precharge2 => [0x08]
  | .displayOn | .displayMode | .partialExit | .grayDefault | .setColumn | .setRow | .writeRam => []

/-- The INIT_TABLE R106 structures, over an opcode table and a choice of payloads. -/
def initTableOf (tab : Vector Byte 23) (payload : Cmd → List Byte) : List (Byte × List Byte) :=
  initOrder.map fun c => (tab.get c.index, payload c)

/-- The configuration of the block right after construction: R6's geometry, D6's `L_MAX`, and the values of G2 to
G4 for what the source leaves open (PRESUMED, notes/assumptions/1.md). -/
def Config.default : Config where
  width := 128
  height := 64
  lMax := 8192
  cmdTable := defaultCmdTable
  colStart := 0x1C
  colEnd := 0x5B
  rowStart := 0x00
  rowEnd := 0x3F
  initTable := initTableOf defaultCmdTable defaultInitPayload
  handle := 0

end Sys2Proof
end

