-- ==== Sys2Proof/Syntax.lean ====
section
/-! DEFINITION. The operations: one constructor per row of spec/opcode_table.json (00_scope.md R3, 30_encoding.md
R60, R70, R72), and the host request that the operation port carries (R72). -/

namespace Sys2Proof

/-- The 44 rows of the opcode table. -/
inductive Instr where
  -- unit formats (R60)
  | cmdu (c : Byte)
  | datu (d : Byte)
  -- host operations (R72)
  | encode (cmd : Byte) (payload : List Byte)
  | send (cmd : Byte) (payload : List Byte)
  | init
  | update
  | pbRead (off cnt : Nat)
  | pbWrite (off : Nat) (data : List Byte)
  | chkGray (val : Nat)
  | shutdown
  /-- Selectors `1xxx`: the three low bits (R74). -/
  | reservedHop (x : BitVec 3)
  -- sub-operations, the reference function, host glue and the transport primitive (R3, R77, R90, R100, R145)
  | writeBit (b : Bool)
  | writeByte (v : Byte)
  | writeUnit (d : Bool) (v : Byte)
  | reformat
  | setColWin
  | setRowWin
  | writeRam
  | decode (frame : List Byte)
  | hostWrite (off : Nat) (data : List Byte)
  | transportSend (frame : List Byte)
  -- command units of the controller commands (R70)
  | opcDisplayOn
  | opcUnlock
  | opcClockDiv
  | opcMuxRatio
  | opcDisplayOffset
  | opcFunctionSel
  | opcStartLine
  | opcRemap
  | opcContrastMaster
  | opcContrastLevel
  | opcPhaseLen
  | opcPrechargeV
  | opcExtVsl
  | opcVcomh
  | opcDisplayMode
  | opcPartialExit
  | opcEnhance
  | opcGpio
  | opcGrayDefault
  | opcPrecharge2
  | opcSetColumn
  | opcSetRow
  | opcWriteRam
deriving DecidableEq, Repr, Inhabited

/-- What the host presents on the operation port (R72): the selector and the operand values (R21). `payload` carries
the payload of ENCODE and SEND and the data bytes of PB_WRITE; an operation reads only its own operands. -/
structure HostReq where
  op      : Selector
  cmd     : Byte := 0
  payload : List Byte := []
  off     : Nat := 0
  cnt     : Nat := 0
  val     : Nat := 0
deriving DecidableEq, Repr

end Sys2Proof
end

