-- ==== Sys2Proof/Decode.lean ====
section
/-! DEFINITION. The decoders and, after them, the encoders: the host selector (R72, R74), the 9-bit unit (R60, R61)
and the WireFrame (R62 to R65, R73, R80 to R84, R90). Each decoder is total; what it rejects it names. -/

namespace Sys2Proof

/-! ## Decoding -/

/-- The operation a host request selects (R72, R74). Total: selectors `1000` to `1111` are the reserved row. -/
def decodeHost (q : HostReq) : Instr :=
  match q.op.toNat with
  | 0 => .encode q.cmd q.payload
  | 1 => .send q.cmd q.payload
  | 2 => .init
  | 3 => .update
  | 4 => .pbRead q.off q.cnt
  | 5 => .pbWrite q.off q.payload
  | 6 => .chkGray q.val
  | 7 => .shutdown
  | _ => .reservedHop (q.op.setWidth 3)

/-- The unit format a 9-bit unit has (R60): bit 8 is the discriminator. Total: all 512 values are legal (R61). -/
def decodeUnit (u : WireUnit) : Instr :=
  if u.getLsbD 8 then .datu (u.setWidth 8) else .cmdu (u.setWidth 8)

/-- Why a byte sequence is no WireFrame, in the order of R90's checks. -/
inductive FrameReject where
  | badLength
  | firstUnitNotCommand
  | laterUnitNotData
  | nonzeroPad
deriving DecidableEq, Repr

/-- The bit at stream position `p` of `F` (R10, R90): bit `7 - (p mod 8)` of byte `p div 8`. -/
def streamBit (F : List Byte) (p : Nat) : Bool := (F.getD (p / 8) 0).getLsbD (7 - p % 8)

/-- The units a frame of `len` bytes holds (R65): `(8 * N) div 9`. -/
def unitCount (len : Nat) : Nat := 8 * len / 9

/-- `v_k` of R90: the value of unit `k`, its eight bits most significant first. -/
def unitValue (F : List Byte) (k : Nat) : Byte :=
  BitVec.ofNat 8 ((List.range 8).map fun j => (streamBit F (9 * k + 1 + j)).toNat <<< (7 - j)).sum

/-- No WireFrame has this length: below 2, or 1 modulo 9 (R65, R90). -/
def badFrameLength (len : Nat) : Bool := len < 2 || len % 9 == 1

/-- Some unit after the first is no data unit (R90). -/
def laterUnitBad (F : List Byte) : Bool :=
  (List.range (unitCount F.length - 1)).any fun i => !streamBit F (9 * (i + 1))

/-- Some pad bit is set (R90). -/
def padBad (F : List Byte) : Bool :=
  (List.range (8 * F.length - 9 * unitCount F.length)).any fun i => streamBit F (9 * unitCount F.length + i)

/-- DECODE (R90): the command and payload of a WireFrame, or the first check that fails. -/
def decodeFrame (F : List Byte) : Except FrameReject (Byte × List Byte) :=
  if badFrameLength F.length then .error .badLength
  else if streamBit F 0 then .error .firstUnitNotCommand
  else if laterUnitBad F then .error .laterUnitNotData
  else if padBad F then .error .nonzeroPad
  else .ok (unitValue F 0, (List.range (unitCount F.length - 1)).map fun i => unitValue F (i + 1))

/-- R73: the well-formed WireFrames. -/
def isFrame (F : List Byte) : Bool :=
  2 ≤ F.length && F.length % 9 != 1 && !streamBit F 0 && !laterUnitBad F && !padBad F

/-- The host request a bare selector makes, every operand zero or empty. -/
def bareRequest (w : Nat) : HostReq := { op := BitVec.ofNat 4 w }

/-- What the decoders read from a table word of `nbits` bits: up to 8 bits a host selector (its four low bits, every
operand zero), up to 16 bits a 9-bit unit. -/
def decodeTableWord (nbits w : Nat) : Option Instr :=
  if nbits ≤ 8 then some (decodeHost (bareRequest w))
  else if nbits ≤ 16 ∧ w < 512 then some (decodeUnit (BitVec.ofNat 9 w))
  else none

/-! ## Encoding -/

/-- A buffer being packed and the position of its next bit (R22, R29). -/
structure Writer where
  buf    : List Byte
  cursor : Nat
deriving DecidableEq, Repr

/-- WRITE_BIT (R80). -/
def Writer.writeBit (w : Writer) (b : Bool) : Writer where
  buf := w.buf.modify (w.cursor / 8) (· ||| (BitVec.ofBool b).setWidth 8 <<< (7 - w.cursor % 8))
  cursor := w.cursor + 1

/-- WRITE_BYTE (R81): bit 7 first. -/
def Writer.writeByte (w : Writer) (v : Byte) : Writer :=
  [7, 6, 5, 4, 3, 2, 1, 0].foldl (fun w j => w.writeBit (v.getLsbD j)) w

/-- WRITE_UNIT (R82): the discriminator, then the value. -/
def Writer.writeUnit (w : Writer) (d : Bool) (v : Byte) : Writer := (w.writeBit d).writeByte v

/-- `N` of R62: the bytes of the WireFrame of a payload of `l` bytes, `ceil(9 * (1 + l) / 8)`. -/
def frameLength (l : Nat) : Nat := (9 * (1 + l) + 7) / 8

/-- The zero-initialised buffer and cursor 0 with which ENCODE begins (R83). -/
def Writer.start (l : Nat) : Writer := ⟨zeros (frameLength l), 0⟩

/-- The packing loop of ENCODE (R83): unit 0 the command, unit `k` the payload byte `k - 1`. -/
def encodeWriter (cmd : Byte) (payload : List Byte) : Writer :=
  payload.foldl (fun w v => w.writeUnit discData v) ((Writer.start payload.length).writeUnit discCmd cmd)

/-- ENCODE (R83): the WireFrame of a command and its payload. -/
def encodeFrame (cmd : Byte) (payload : List Byte) : List Byte := (encodeWriter cmd payload).buf

/-- The 9-bit value of a command unit (R60): `zext_9(cmd)`. -/
def commandUnit (c : Byte) : WireUnit := c.setWidth 9

/-- The 9-bit value of a data unit (R60): `256 + zext_9(byte)`. -/
def dataUnit (d : Byte) : WireUnit := 256 ||| d.setWidth 9

/-- R84's closed form: the units concatenated as one number, first unit most significant. -/
def unitsNumber (cmd : Byte) (payload : List Byte) : Nat :=
  payload.foldl (fun acc v => acc * 512 + (dataUnit v).toNat) (commandUnit cmd).toNat

/-- R84's closed form: the big-endian base-256 expansion of the units' number, shifted over the pad bits. -/
def closedFormFrame (cmd : Byte) (payload : List Byte) : List Byte :=
  let n := 1 + payload.length
  let len := frameLength payload.length
  (List.range len).map fun m =>
    BitVec.ofNat 8 ((unitsNumber cmd payload <<< (8 * len - 9 * n)) >>> (8 * (len - 1 - m)))

/-- Which controller command a command-symbol row stands for (R70). -/
def Instr.command? : Instr → Option Cmd
  | .opcDisplayOn => some .displayOn | .opcUnlock => some .unlock | .opcClockDiv => some .clockDiv
  | .opcMuxRatio => some .muxRatio | .opcDisplayOffset => some .displayOffset
  | .opcFunctionSel => some .functionSel | .opcStartLine => some .startLine | .opcRemap => some .remap
  | .opcContrastMaster => some .contrastMaster | .opcContrastLevel => some .contrastLevel
  | .opcPhaseLen => some .phaseLen | .opcPrechargeV => some .prechargeV | .opcExtVsl => some .extVsl
  | .opcVcomh => some .vcomh | .opcDisplayMode => some .displayMode | .opcPartialExit => some .partialExit
  | .opcEnhance => some .enhance | .opcGpio => some .gpio | .opcGrayDefault => some .grayDefault
  | .opcPrecharge2 => some .precharge2 | .opcSetColumn => some .setColumn | .opcSetRow => some .setRow
  | .opcWriteRam => some .writeRam
  | .cmdu _ | .datu _ | .encode _ _ | .send _ _ | .init | .update | .pbRead _ _ | .pbWrite _ _ | .chkGray _
  | .shutdown | .reservedHop _ | .writeBit _ | .writeByte _ | .writeUnit _ _ | .reformat | .setColWin
  | .setRowWin | .writeRam | .decode _ | .hostWrite _ _ | .transportSend _ => none

/-- The words of an instruction: a host request, a unit, or none (the rows of format INTERNAL). -/
inductive Words where
  | request (q : HostReq)
  | unit (u : WireUnit)
  | internal
deriving DecidableEq, Repr

/-- The encoder, from R72's selector table and R60's unit formats. A command symbol is the command unit of its
`CMD_TABLE` byte. -/
def encode (g : Config) (i : Instr) : Words :=
  match i with
  | .encode c p => .request { op := 0#4, cmd := c, payload := p }
  | .send c p => .request { op := 1#4, cmd := c, payload := p }
  | .init => .request { op := 2#4 }
  | .update => .request { op := 3#4 }
  | .pbRead o n => .request { op := 4#4, off := o, cnt := n }
  | .pbWrite o d => .request { op := 5#4, off := o, payload := d, cnt := d.length }
  | .chkGray v => .request { op := 6#4, val := v }
  | .shutdown => .request { op := 7#4 }
  | .reservedHop x => .request { op := 8#4 ||| x.setWidth 4 }
  | .cmdu c => .unit (commandUnit c)
  | .datu d => .unit (dataUnit d)
  | i =>
    match i.command? with
    | some c => .unit (commandUnit (g.opcode c))
    | none => .internal

/-- Decoding an instruction's words. -/
def decodeWords : Words → Option Instr
  | .request q => some (decodeHost q)
  | .unit u => some (decodeUnit u)
  | .internal => none

/-- What an instruction's words decode to: a command symbol's word is the command unit of its opcode, an INTERNAL
row has no words, every other instruction is itself. -/
def Instr.canonical (g : Config) (i : Instr) : Option Instr :=
  match i with
  | .writeBit _ | .writeByte _ | .writeUnit _ _ | .reformat | .setColWin | .setRowWin | .writeRam
  | .decode _ | .hostWrite _ _ | .transportSend _ => none
  | i =>
    match i.command? with
    | some c => some (.cmdu (g.opcode c))
    | none => some i

end Sys2Proof
end

