-- ==== Sys2Proof/Machine/State.lean ====
section
/-! DEFINITION. The state of the block (10_state.md R20 to R36), plain data, and its value after reset
(70_reset_and_hazards.md R190 to R192); the reasons a step stops. -/

namespace Sys2Proof.Machine

/-- A byte memory: (address, byte) pairs, addresses strictly rising, no byte `0x00`. An unlisted address reads as
`0x00`: the PixelBuffer is zero-filled when it is created (R27, R191). -/
abbrev Memory := List Host.Cell

/-- `SEQ` (R23). -/
inductive Seq where
  | idle
  | sending (i : Nat)
  | ready
  | failed
deriving DecidableEq, Repr, Inhabited

/-- `UPH` (R24): `U_Col`, `U_Row`, `U_Build`, `U_Write`, `U_None`. -/
inductive Phase where
  | col | row | build | write | none
deriving DecidableEq, Repr, Inhabited

/-- The result of an operation (R10, R37, R160). -/
inductive Result where
  | ok
  | okFrame (frame : List Byte)
  | okBytes (bytes : List Byte)
  | okCount (n : Nat)
  | okDecoded (cmd : Byte) (payload : List Byte)
  | transportError (e : TErr)
  | allocationError
  | rangeError
  | offsetRejected
deriving DecidableEq, Repr, Inhabited

/-- Who acts next while an operation is in progress (R25, R55): the block, or the host with its next request. -/
inductive Turn where
  | block
  | host
deriving DecidableEq, Repr

/-- Everything the block holds. The fields after `tlog` are the model's own: they hold what the outside world
presents to the block and what the block returns to it (notes/assumptions/2.md, 3.md, 4.md, 5.md, 6.md). -/
@[ext]
structure State where
  /-- The configuration constants (R26); no operation writes them. -/
  cfg      : Config
  /-- `PB`, the PixelBuffer (R27). -/
  pb       : Memory
  /-- `SEQ`, the InitSequencer state (R23). -/
  seq      : Seq
  /-- `UPH`, the update phase (R24). -/
  uph      : Phase
  /-- `BUSY` (R25). -/
  busy     : Bool
  /-- `CMD`, operand latch (R21). -/
  cmd      : Byte
  /-- `PAYLOAD`, operand latch; `PLEN` is its length (R21). -/
  payload  : List Byte
  /-- `OFF`, operand latch (R21). -/
  off      : Nat
  /-- `CNT`, operand latch (R21). -/
  cnt      : Nat
  /-- `VAL`, operand latch (R21). -/
  val      : Nat
  /-- `cursor`, the encoder's bit cursor (R22). -/
  cursor   : Nat
  /-- `WF`, the WireFrame buffer; none while it does not exist (R29). -/
  wf       : Option (List Byte)
  /-- `PI`, the PanelImage; none while it does not exist (R28). -/
  pi       : Option (List Byte)
  /-- `TLOG`, the transport log (R33). -/
  tlog     : List (List Byte × Answer)
  /-- The selector of the operation last started: which operation is in progress while `busy`. -/
  op       : Selector
  /-- The units of the frame being packed that are still to be written, in order. -/
  issue    : List Instr
  /-- Earlier contents of `PB` since the current U_Build phase began, newest first (R55). -/
  pbOld    : List Memory
  /-- The results returned to callers, in order (R37: nothing in the block reads one back). -/
  returned : List Result
  /-- The requests the host presents, first to be served first (R72). -/
  port     : List HostReq
  /-- The host's interleaving: who acts at each step of an operation in progress; empty when the host waits for the
  operation to return (R53). -/
  sched    : List Turn
  /-- Transport answers fixed in advance; when used up, answers are free values (R32). -/
  answers  : List Answer
  /-- Allocation outcomes fixed in advance; when used up, outcomes are free values (R31). -/
  allocs   : List Bool
  /-- How many allocation draws have been made: the index of the next free value. -/
  draws    : Nat
deriving DecidableEq, Repr

/-- The machine right after reset (R191, R36). The fields for which the spec states no value (the operand latches,
`cursor`, the model's own fields and the default configuration) are named in notes/assumptions/1.md to 6.md and
11.md. -/
def State.reset : State where
  cfg := Config.default
  pb := []
  seq := .idle
  uph := .none
  busy := false
  cmd := 0
  payload := []
  off := 0
  cnt := 0
  val := 0
  cursor := 0
  wf := none
  pi := none
  tlog := []
  op := 0
  issue := []
  pbOld := []
  returned := []
  port := []
  sched := []
  answers := []
  allocs := []
  draws := 0

/-- Faults: raised by a sub-operation that packs bits into a WireFrame that is not there. The spec calls the
condition always false inside ENCODE (R80), so no host operation raises one. Safe: the model stops. -/
inductive Fault where
  /-- WRITE_BIT, WRITE_BYTE, WRITE_UNIT, a unit or a command symbol with no WireFrame in existence (R29). Safe. -/
  | noFrame
  /-- The same with fewer free bits left in the WireFrame than the sub-operation writes (R80). Safe. -/
  | pastFrameEnd
deriving DecidableEq, Repr

/-- Refusals: the closed list of R172, and the rejection of an arm without meaning. All safe: the model stops. -/
inductive Refusal where
  /-- exec, for an instruction the model gives no meaning; no arm raises it. Safe. -/
  | notModelled (mnemonic : String)
  /-- A host operation requested while `BUSY = 1` (R172, R200), but for a PB_WRITE overlapping an UPDATE. Safe. -/
  | busy
  /-- UPDATE, or HOSTWRITE's update, with `SEQ` not `Ready` (R128, R172). Safe. -/
  | notReady
  /-- A send or encode of more than `L_MAX` payload bytes (R85, R172). Safe. -/
  | payloadTooLong
  /-- Host selectors `1000` to `1111` (R74, R172). Safe. -/
  | reservedOp
  /-- DECODE of a sequence whose length is that of no WireFrame (R90, R172). Safe. -/
  | badLength
  /-- DECODE of a sequence whose first unit is no command unit (R90, R172). Safe. -/
  | firstUnitNotCommand
  /-- DECODE of a sequence with a second command unit (R90, R172). Safe. -/
  | laterUnitNotData
  /-- DECODE of a sequence with a pad bit set (R90, R172). Safe. -/
  | nonzeroPad
  /-- Any host operation under a configuration R6 excludes (R172, D35). Safe. -/
  | badConfig
deriving DecidableEq, Repr

/-- What a step of this machine answers. -/
abbrev Reply := Host.Outcome State Fault Refusal

end Sys2Proof.Machine
end

