-- ==== Sys2Proof/Machine/Flags.lean ====
section
/-! DEFINITION. The block has no condition codes (10_state.md R37). The only status is the result an operation
returns; here are the results' codes (60_exceptions.md R160) and the two predicates that decide a status. -/

namespace Sys2Proof.Machine

/-- The result codes of R160. -/
def Result.code : Result → Nat
  | .ok | .okFrame _ | .okBytes _ | .okCount _ | .okDecoded _ _ => 0
  | .transportError _ => 1
  | .allocationError => 2
  | .rangeError => 3
  | .offsetRejected => 4

/-- The result of a send from the transport's answer, the error value unchanged (R101, R161). -/
def Result.ofAnswer : Answer → Result
  | .ok => .ok
  | .error e => .transportError e

/-- The result of CHKGRAY (R146, R163): a grey level is at most 15. -/
def greyResult (val : Nat) : Result := if val > 15 then .rangeError else .ok

end Sys2Proof.Machine
end

