-- ==== Sys2Proof/Machine/Operands.lean ====
section
/-! DEFINITION. Operand assembly (30_encoding.md R66, R67; 20_memory.md R41, R47): nibbles, the grey replication, the
window payloads, the units of a frame as sub-operations. -/

namespace Sys2Proof.Machine

/-- `b[7:4]`, the first pixel of a PixelBuffer byte (R41). -/
def highNibble (b : Byte) : BitVec 4 := b.extractLsb' 4 4

/-- `b[3:0]`, the second pixel of a PixelBuffer byte (R41). -/
def lowNibble (b : Byte) : BitVec 4 := b.extractLsb' 0 4

/-- `(g << 4) | g` (R47, R66 (c)): the PanelImage byte of a grey level. -/
def greyByte (g : BitVec 4) : Byte := (g.setWidth 8 <<< 4) ||| g.setWidth 8

/-- The two PanelImage bytes of a PixelBuffer byte (R122, R130). -/
def pixelPair (b : Byte) : List Byte := [greyByte (highNibble b), greyByte (lowNibble b)]

/-- The payload of the column-address command (R67): start before end. -/
def columnWindow (g : Config) : List Byte := [g.colStart, g.colEnd]

/-- The payload of the row-address command (R67): start before end. -/
def rowWindow (g : Config) : List Byte := [g.rowStart, g.rowEnd]

/-- `PLEN = len(PAYLOAD)` (R21). -/
def State.plen (s : State) : Nat := s.payload.length

/-- The discriminator and value a unit sub-operation writes (R60, R70); none for every other instruction. -/
def unitOf (g : Config) (i : Instr) : Option (Bool × Byte) :=
  match i with
  | .cmdu c => some (discCmd, c)
  | .datu d => some (discData, d)
  | i => i.command?.map fun c => (discCmd, g.opcode c)

/-- Packing one issued unit; an instruction that is no unit packs nothing. -/
def packIssued (g : Config) (w : Writer) (i : Instr) : Writer :=
  match unitOf g i with
  | some (d, v) => w.writeUnit d v
  | none => w

end Sys2Proof.Machine
end

