-- ==== Sys2Proof/Machine/Ops.lean ====
section
/-! DEFINITION. The shared operations: the PixelBuffer as a memory (20_memory.md), the named updates of the state,
the draws, starting and returning from an operation, raising an error (60_exceptions.md R164), packing
into the WireFrame (40_encoder.md) and SEND (41_send_and_init.md R101). -/

namespace Sys2Proof.Machine

/-! ## Memory -/

/-- The canonical form: addresses strictly rising, no entry `0x00`. -/
def Memory.wf : Memory → Bool
  | [] => true
  | (a, v) :: m => v != 0#8 && m.all (fun c => a < c.1) && Memory.wf m

/-- One byte of memory; an unlisted address reads as `0x00` (R27). -/
def Memory.read (m : Memory) (a : Nat) : Byte :=
  match m with
  | [] => 0#8
  | (b, v) :: m => if b = a then v else Memory.read m a

/-- Storing one byte; storing `0x00` removes the entry. -/
def Memory.write (m : Memory) (a : Nat) (v : Byte) : Memory :=
  match m with
  | [] => if v = 0#8 then [] else [(a, v)]
  | (b, w) :: m =>
    if a < b then (if v = 0#8 then (b, w) :: m else (a, v) :: (b, w) :: m)
    else if a = b then (if v = 0#8 then m else (a, v) :: m)
    else (b, w) :: Memory.write m a v

/-- `MemRead(a, n)` (R11): the bytes `PB[a .. a + n)`. -/
def Memory.readBytes (m : Memory) (a n : Nat) : List Byte := (List.range n).map fun j => m.read (a + j)

/-- `MemWrite(a, n, v)` (R11): `PB[a + j] <- v[j]`. -/
def Memory.writeBytes (m : Memory) (a : Nat) : List Byte → Memory
  | [] => m
  | v :: vs => (m.write a v).writeBytes (a + 1) vs

/-! ## Named updates of the state -/

/-- The start of a host operation (R25): `BUSY` is set; the selector is held while it runs. -/
def State.start (s : State) (op : Selector) : State := { s with op := op, busy := true }

/-- Latching a command and its payload (R21). -/
def State.latchSend (s : State) (cmd : Byte) (payload : List Byte) : State :=
  { s with cmd := cmd, payload := payload }

/-- Latching an offset and a count (R21). -/
def State.latchPort (s : State) (off cnt : Nat) : State := { s with off := off, cnt := cnt }

/-- Latching a grey value (R21). -/
def State.latchVal (s : State) (val : Nat) : State := { s with val := val }

/-- Replacing the PixelBuffer's contents. -/
def State.setPb (s : State) (m : Memory) : State := { s with pb := m }

/-- `SEQ <- q` (R11). -/
def State.setSeq (s : State) (q : Seq) : State := { s with seq := q }

/-- `UPH <- u` (R11). -/
def State.setPhase (s : State) (u : Phase) : State := { s with uph := u }

/-- The WireFrame buffer and cursor become a writer's. -/
def State.putWriter (s : State) (w : Writer) : State := { s with wf := some w.buf, cursor := w.cursor }

/-- The units still to be packed. -/
def State.setIssue (s : State) (is : List Instr) : State := { s with issue := is }

/-- Releasing the WireFrame (R29, R30). -/
def State.releaseFrame (s : State) : State := { s with wf := none, issue := [] }

/-- Obtaining and filling the PanelImage (R28). -/
def State.putImage (s : State) (image : List Byte) : State := { s with pi := some image, pbOld := [] }

/-- Releasing the PanelImage (R28, R30). -/
def State.releaseImage (s : State) : State := { s with pi := none, pbOld := [] }

/-- Keeping the PixelBuffer's present contents as one a racing read may still see (R55). -/
def State.rememberPb (s : State) : State := { s with pbOld := s.pb :: s.pbOld }

/-- Returning a result to the immediate caller (R37). -/
def State.deliver (s : State) (r : Result) : State := { s with returned := s.returned ++ [r] }

/-- The end of a host operation (R25, R168): `BUSY` is cleared and the result returned to the host. -/
def State.finish (s : State) (r : Result) : State := { s with busy := false, returned := s.returned ++ [r] }

/-- Raising an error at the host port (R164): every transient buffer is released, `UPH` goes to `U_None`, an INIT in
progress goes to `Failed`, `BUSY` is cleared and the error is returned. Nothing is saved and there is nothing to
return from (R168). -/
def State.raise (s : State) (r : Result) : State :=
  { s with
    wf := none, issue := [], pi := none, pbOld := [], uph := .none, busy := false
    seq := match s.seq with | .sending _ => .failed | q => q
    returned := s.returned ++ [r] }

/-! ## Draws -/

/-- `alloc(n)` (R31): the next prepared outcome, or a free value. -/
def State.allocAnswer (s : State) (n : Nat) : Bool :=
  match s.allocs with
  | a :: _ => a
  | [] => Config.allocDraw n s.draws

/-- The draw has been made. -/
def State.afterAlloc (s : State) : State := { s with allocs := s.allocs.tail, draws := s.draws + 1 }

/-- The answer of `Transport.send(F)` (R32): the next prepared answer, or a free value. -/
def State.transportAnswer (s : State) (F : List Byte) : Answer :=
  match s.answers with
  | a :: _ => a
  | [] => Config.transportDraw s.cfg.handle s.tlog F

/-- `Transport.send(F)` (R100, R33): the call and its answer are logged. -/
def State.afterTransport (s : State) (F : List Byte) : State :=
  { s with tlog := s.tlog ++ [(F, s.transportAnswer F)], answers := s.answers.tail }

/-! ## Admission (R172: decided before anything else) -/

/-- Whether a host operation is refused before it starts: the configuration first, then `BUSY`. -/
def State.admission (s : State) : Option Refusal :=
  if !s.cfg.valid then some .badConfig
  else if s.busy then some .busy
  else none

/-! ## Packing into the WireFrame -/

/-- Packing `bits` bits by `f` at the cursor of the WireFrame that exists (R80's precondition). -/
def onFrame (bits : Nat) (f : Writer → Writer) (s : State) : Reply :=
  match s.wf with
  | none => .fault .noFrame
  | some F =>
    if s.cursor + bits ≤ 8 * F.length then .next (s.putWriter (f ⟨F, s.cursor⟩))
    else .fault .pastFrameEnd

/-- Packing one unit (R82). -/
def packUnit (d : Bool) (v : Byte) (s : State) : Reply := onFrame 9 (fun w => w.writeUnit d v) s

/-- The command unit of a controller command (R60, R70). -/
def packCommand (c : Cmd) (s : State) : Reply := packUnit discCmd (s.cfg.opcode c) s

/-! ## SEND -/

/-- SEND (R101): obtain the WireFrame, encode, hand it to the transport, release it. -/
def sendOp (cmd : Byte) (payload : List Byte) (s : State) : State × Result :=
  let s1 := (s.latchSend cmd payload).afterAlloc
  if s.allocAnswer (frameLength payload.length) then
    let w := encodeWriter cmd payload
    let s2 := s1.putWriter w
    ((s2.afterTransport w.buf).releaseFrame, .ofAnswer (s2.transportAnswer w.buf))
  else (s1, .allocationError)

end Sys2Proof.Machine
end

