-- ==== Sys2Proof/Machine/Commands.lean ====
section
/-! DEFINITION. The controller commands (30_encoding.md R70): each symbol is a command unit whose value is the
command's `CMD_TABLE` entry; the block puts that unit on the wire and does not interpret it (R61). -/

namespace Sys2Proof.Machine

/-- OPC_DISPLAY_ON (R70): the command unit of the display-on command. -/
def execOpcDisplayOn (s : State) : Reply := packCommand .displayOn s

/-- OPC_UNLOCK (R70): the command unit of the panel-unlock command. -/
def execOpcUnlock (s : State) : Reply := packCommand .unlock s

/-- OPC_CLOCK_DIV (R70): the command unit of the clock divider command. -/
def execOpcClockDiv (s : State) : Reply := packCommand .clockDiv s

/-- OPC_MUX_RATIO (R70): the command unit of the multiplex ratio command. -/
def execOpcMuxRatio (s : State) : Reply := packCommand .muxRatio s

/-- OPC_DISPLAY_OFFSET (R70): the command unit of the display offset command. -/
def execOpcDisplayOffset (s : State) : Reply := packCommand .displayOffset s

/-- OPC_FUNCTION_SEL (R70): the command unit of the function selection command. -/
def execOpcFunctionSel (s : State) : Reply := packCommand .functionSel s

/-- OPC_START_LINE (R70): the command unit of the start line command. -/
def execOpcStartLine (s : State) : Reply := packCommand .startLine s

/-- OPC_REMAP (R70): the command unit of the remap/format command. -/
def execOpcRemap (s : State) : Reply := packCommand .remap s

/-- OPC_CONTRAST_MASTER (R70): the command unit of the contrast master command. -/
def execOpcContrastMaster (s : State) : Reply := packCommand .contrastMaster s

/-- OPC_CONTRAST_LEVEL (R70): the command unit of the contrast level command. -/
def execOpcContrastLevel (s : State) : Reply := packCommand .contrastLevel s

/-- OPC_PHASE_LEN (R70): the command unit of the phase length command. -/
def execOpcPhaseLen (s : State) : Reply := packCommand .phaseLen s

/-- OPC_PRECHARGE_V (R70): the command unit of the precharge voltage command. -/
def execOpcPrechargeV (s : State) : Reply := packCommand .prechargeV s

/-- OPC_EXT_VSL (R70): the command unit of the external VSL command. -/
def execOpcExtVsl (s : State) : Reply := packCommand .extVsl s

/-- OPC_VCOMH (R70): the command unit of the VCOMH level command. -/
def execOpcVcomh (s : State) : Reply := packCommand .vcomh s

/-- OPC_DISPLAY_MODE (R70): the command unit of the display mode command. -/
def execOpcDisplayMode (s : State) : Reply := packCommand .displayMode s

/-- OPC_PARTIAL_EXIT (R70): the command unit of the partial-display exit command. -/
def execOpcPartialExit (s : State) : Reply := packCommand .partialExit s

/-- OPC_ENHANCE (R70): the command unit of the display enhancement command. -/
def execOpcEnhance (s : State) : Reply := packCommand .enhance s

/-- OPC_GPIO (R70): the command unit of the GPIO configuration command. -/
def execOpcGpio (s : State) : Reply := packCommand .gpio s

/-- OPC_GRAY_DEFAULT (R70): the command unit of the default grayscale table command. -/
def execOpcGrayDefault (s : State) : Reply := packCommand .grayDefault s

/-- OPC_PRECHARGE2 (R70): the command unit of the second precharge period command. -/
def execOpcPrecharge2 (s : State) : Reply := packCommand .precharge2 s

/-- OPC_SET_COLUMN (R70): the command unit of the column-address-window command. -/
def execOpcSetColumn (s : State) : Reply := packCommand .setColumn s

/-- OPC_SET_ROW (R70): the command unit of the row-address-window command. -/
def execOpcSetRow (s : State) : Reply := packCommand .setRow s

/-- OPC_WRITE_RAM (R70): the command unit of the RAM-write command. -/
def execOpcWriteRam (s : State) : Reply := packCommand .writeRam s

end Sys2Proof.Machine
end

