-- ==== Sys2Proof/Machine/Display.lean ====
section
/-! DEFINITION. The DisplayUpdater family (42_display_update.md): the window-address serializer, the reformatter, the
RAM write and UPDATE. -/

namespace Sys2Proof.Machine

/-! ## Step 1: the window-address serializer -/

/-- SETCOLWIN's effect and result (R120). -/
def setColWinOp (s : State) : State × Result := sendOp (s.cfg.opcode .setColumn) (columnWindow s.cfg) s

/-- SETROWWIN's effect and result (R121). -/
def setRowWinOp (s : State) : State × Result := sendOp (s.cfg.opcode .setRow) (rowWindow s.cfg) s

/-- SETCOLWIN (R120, R77). -/
def execSetColWin (s : State) : Reply :=
  if 2 ≤ s.cfg.lMax then .next ((setColWinOp s).1.deliver (setColWinOp s).2) else .refused .payloadTooLong

/-- SETROWWIN (R121, R77). -/
def execSetRowWin (s : State) : Reply :=
  if 2 ≤ s.cfg.lMax then .next ((setRowWinOp s).1.deliver (setRowWinOp s).2) else .refused .payloadTooLong

/-! ## Step 2: the reformatter -/

/-- The contents PixelBuffer byte `i` may be read from during U_Build (R55): the present ones, and, when a PB_WRITE has
landed in the phase, the earlier ones, chosen per byte by a free value. -/
def State.pixelRead (s : State) (i : Nat) : Byte :=
  match s.pbOld with
  | [] => s.pb.read i
  | _ :: _ =>
    ((s.pb :: s.pbOld).getD (Config.raceDraw s.draws i % (s.pb :: s.pbOld).length) s.pb).read i

/-- The double loop of REFORMAT (R122, R132): rows of `W / 2` bytes, each byte giving its two pixels. -/
def panelImage (g : Config) (pixel : Nat → Byte) : List Byte :=
  (List.range g.height).flatMap fun y =>
    (List.range g.rowBytes).flatMap fun xb => pixelPair (pixel (y * g.rowBytes + xb))

/-- REFORMAT's result (R122). -/
def State.reformatted (s : State) : List Byte := panelImage s.cfg s.pixelRead

/-- REFORMAT (R122): all of `PI` is written; nothing is raised. -/
def execReformat (s : State) : Reply := .next (s.putImage s.reformatted)

/-! ## Step 3: the RAM write -/

/-- The U_Build phase (R123, R125): `PI` is obtained and filled. -/
def buildOp (s : State) : State × Result :=
  if s.allocAnswer s.cfg.piSize then ((s.afterAlloc.putImage s.reformatted).setPhase .write, .ok)
  else (s.afterAlloc, .allocationError)

/-- WRITERAM's effect and result (R123): `PI` is released on every path. -/
def writeRamOp (s : State) : State × Result :=
  match buildOp (s.setPhase .build) with
  | (s1, .ok) =>
    let r := sendOp (s1.cfg.opcode .writeRam) (s1.pi.getD []) s1
    (r.1.releaseImage, r.2)
  | (s1, e) => (s1.releaseImage.setPhase .none, e)

/-- WRITERAM (R123). -/
def execWriteRam (s : State) : Reply :=
  if s.cfg.piSize ≤ s.cfg.lMax then .next ((writeRamOp s).1.deliver (writeRamOp s).2)
  else .refused .payloadTooLong

/-! ## UPDATE -/

/-- The three sends of UPDATE (R124): the first error ends it. -/
def updateOp (s : State) : State × Result :=
  match setColWinOp (s.setPhase .col) with
  | (s1, .ok) =>
    match setRowWinOp (s1.setPhase .row) with
    | (s2, .ok) => writeRamOp s2
    | r => r
  | r => r

/-- The end of an UPDATE (R124, R126): `UPH` goes to `U_None` and the result to the host. -/
def concludeUpdate (r : State × Result) : State :=
  match r.2 with
  | .ok => (r.1.setPhase .none).finish .ok
  | e => r.1.raise e

/-- A requested update (R124, R128): admitted when idle with `SEQ = Ready`. -/
def updateRequest (s : State) : Reply :=
  match s.admission with
  | some r => .refused r
  | none =>
    if s.seq = .ready then
      if s.cfg.updateFits then
        .next (if s.sched.isEmpty then concludeUpdate (updateOp (s.start 3#4)) else (s.start 3#4).setPhase .col)
      else .refused .payloadTooLong
    else .refused .notReady

/-- UPDATE (R124). -/
def execUpdate (s : State) : Reply := updateRequest s

end Sys2Proof.Machine
end

