-- ==== Sys2Proof/Machine/Encoder.lean ====
section
/-! DEFINITION. The BitStreamEncoder family (40_encoder.md): the unit formats, the packing sub-operations, ENCODE and
the reference function DECODE. -/

namespace Sys2Proof.Machine

/-- CMDU (R60): the command unit of `c` is packed at the cursor. -/
def execCmdu (c : Byte) (s : State) : Reply := packUnit discCmd c s

/-- DATU (R60): the data unit of `d` is packed at the cursor. -/
def execDatu (d : Byte) (s : State) : Reply := packUnit discData d s

/-- WRITE_BIT (R80). -/
def execWriteBit (b : Bool) (s : State) : Reply := onFrame 1 (fun w => w.writeBit b) s

/-- WRITE_BYTE (R81). -/
def execWriteByte (v : Byte) (s : State) : Reply := onFrame 8 (fun w => w.writeByte v) s

/-- WRITE_UNIT (R82). -/
def execWriteUnit (d : Bool) (v : Byte) (s : State) : Reply := packUnit d v s

/-- ENCODE's effect (R83): the WireFrame is packed, returned and released; nothing is drawn and nothing sent. -/
def encodeOp (cmd : Byte) (payload : List Byte) (s : State) : State :=
  let w := encodeWriter cmd payload
  ((s.latchSend cmd payload).putWriter w).releaseFrame.finish (.okFrame w.buf)

/-- ENCODE (R83, R85). -/
def execEncode (cmd : Byte) (payload : List Byte) (s : State) : Reply :=
  match s.admission with
  | some r => .refused r
  | none =>
    if payload.length ≤ s.cfg.lMax then
      .next (if s.sched.isEmpty then encodeOp cmd payload (s.start 0#4) else (s.start 0#4).latchSend cmd payload)
    else .refused .payloadTooLong

/-- The refusal that names a malformed frame (R90, R172). -/
def Refusal.ofReject : FrameReject → Refusal
  | .badLength => .badLength
  | .firstUnitNotCommand => .firstUnitNotCommand
  | .laterUnitNotData => .laterUnitNotData
  | .nonzeroPad => .nonzeroPad

/-- DECODE (R90). -/
def execDecode (frame : List Byte) (s : State) : Reply :=
  match decodeFrame frame with
  | .ok (cmd, payload) => .next (s.deliver (.okDecoded cmd payload))
  | .error e => .refused (Refusal.ofReject e)

end Sys2Proof.Machine
end

