-- ==== Sys2Proof/Machine/Port.lean ====
section
/-! DEFINITION. The PixelBuffer port, the range check, the host write path and the reserved selectors
(43_pixelbuffer_port.md, 30_encoding.md R74). -/

namespace Sys2Proof.Machine

/-- The bytes PB_READ returns (R141, R44): shortened to those that exist. -/
def State.readClipped (s : State) (off cnt : Nat) : List Byte :=
  if off ≥ s.cfg.pbSize then [] else s.pb.readBytes off (min cnt (s.cfg.pbSize - off))

/-- PB_READ (R141): never rejected, changes nothing. -/
def execPbRead (off cnt : Nat) (s : State) : Reply :=
  match s.admission with
  | some r => .refused r
  | none => .next (((s.start 4#4).latchPort off cnt).finish (.okBytes (s.readClipped off cnt)))

/-- How many of `cnt` bytes a write at `off` stores (R142, R45): at most the remaining capacity. -/
def State.writeCount (s : State) (off cnt : Nat) : Nat := min cnt (s.cfg.pbSize - off)

/-- PB_WRITE's effect and result (R142, R45). A write that lands in U_Build leaves the contents it replaces among those
a racing read may see (R55). -/
def pbWriteOp (off : Nat) (data : List Byte) (s : State) : State × Result :=
  let s1 := s.latchPort off data.length
  if off > s.cfg.pbSize then (s1, .offsetRejected)
  else
    let m := s.writeCount off data.length
    let s2 := if s.uph = .build then s1.rememberPb else s1
    (s2.setPb (s.pb.writeBytes off (data.take m)), .okCount m)

/-- PB_WRITE (R142). Between operations it is an operation like any other; while an UPDATE is in progress it is admitted
as the race of R55 and the UPDATE stays in progress (R25, R200); otherwise a busy block refuses it. -/
def execPbWrite (off : Nat) (data : List Byte) (s : State) : Reply :=
  match s.admission with
  | some .busy =>
    if s.uph = .none then .refused .busy
    else .next ((pbWriteOp off data s).1.deliver (pbWriteOp off data s).2)
  | some r => .refused r
  | none => .next ((pbWriteOp off data (s.start 5#4)).1.finish (pbWriteOp off data (s.start 5#4)).2)

/-- CHKGRAY (R146): nothing is sent. -/
def execChkGray (val : Nat) (s : State) : Reply :=
  match s.admission with
  | some r => .refused r
  | none => .next (((s.start 6#4).latchVal val).finish (greyResult val))

/-- HOSTWRITE (R145): PB_WRITE, then UPDATE unless the write was rejected; both results are returned. -/
def execHostWrite (off : Nat) (data : List Byte) (s : State) : Reply :=
  match s.admission with
  | some r => .refused r
  | none =>
    match pbWriteOp off data (s.start 5#4) with
    | (s1, .offsetRejected) => .next (s1.finish .offsetRejected)
    | (s1, r) => updateRequest (s1.finish r)

/-- RESERVED_HOP (R74, R172): selectors `1000` to `1111` have no meaning in any state. -/
def execReservedHop (_x : BitVec 3) (_s : State) : Reply := .refused .reservedOp

end Sys2Proof.Machine
end

