-- ==== Sys2Proof/Machine/Sending.lean ====
section
/-! DEFINITION. The transport primitive, SEND, INIT and SHUTDOWN (41_send_and_init.md). -/

namespace Sys2Proof.Machine

/-- TRANSPORT_SEND (R100): one call of the transport, its answer returned to the caller. -/
def execTransportSend (frame : List Byte) (s : State) : Reply :=
  .next ((s.afterTransport frame).deliver (.ofAnswer (s.transportAnswer frame)))

/-- SEND (R101, R102): one attempt; the result goes to the host. -/
def execSend (cmd : Byte) (payload : List Byte) (s : State) : Reply :=
  match s.admission with
  | some r => .refused r
  | none =>
    if payload.length ≤ s.cfg.lMax then
      .next (if s.sched.isEmpty then
          (sendOp cmd payload (s.start 1#4)).1.finish (sendOp cmd payload (s.start 1#4)).2
        else (s.start 1#4).latchSend cmd payload)
    else .refused .payloadTooLong

/-- The loop of INIT from entry `i` on (R107): it stops at the first error, with `SEQ` still at that entry. -/
def initFrom (i : Nat) (table : List (Byte × List Byte)) (s : State) : State × Result :=
  match table with
  | [] => (s.setSeq .ready, .ok)
  | (cmd, payload) :: rest =>
    match sendOp cmd payload (s.setSeq (.sending i)) with
    | (s1, .ok) => initFrom (i + 1) rest s1
    | r => r

/-- The end of an INIT (R107, R108): `Ready` and `OK`, or `Failed` and the first error unchanged. -/
def concludeInit (r : State × Result) : State :=
  match r.2 with
  | .ok => r.1.finish .ok
  | e => r.1.raise e

/-- `Sending(i)`, or `Ready` once every entry is sent (R108). -/
def initNext (i : Nat) (s : State) : State :=
  if i < s.cfg.nInit then s.setSeq (.sending i) else (s.setSeq .ready).finish .ok

/-- INIT (R107, R110): admitted from Idle, Ready and Failed alike, always from entry 0. -/
def execInit (s : State) : Reply :=
  match s.admission with
  | some r => .refused r
  | none =>
    if s.cfg.initFits then
      .next (if s.sched.isEmpty then concludeInit (initFrom 0 s.cfg.initTable (s.start 2#4))
        else initNext 0 (s.start 2#4))
    else .refused .payloadTooLong

/-- SHUTDOWN (R112): no effect. -/
def execShutdown (s : State) : Reply :=
  match s.admission with
  | some r => .refused r
  | none => .next ((s.start 7#4).finish .ok)

end Sys2Proof.Machine
end

