-- ==== Sys2Proof/Machine/Dispatch.lean ====
section
/-! DEFINITION. One arm per row of spec/opcode_table.json, in Syntax.lean's order. -/

namespace Sys2Proof.Machine

def exec (i : Instr) (s : State) : Host.Outcome State Fault Refusal :=
  match i with
  | .cmdu c => Sys2Proof.Machine.execCmdu c s
  | .datu d => Sys2Proof.Machine.execDatu d s
  | .encode cmd payload => Sys2Proof.Machine.execEncode cmd payload s
  | .send cmd payload => Sys2Proof.Machine.execSend cmd payload s
  | .init => Sys2Proof.Machine.execInit s
  | .update => Sys2Proof.Machine.execUpdate s
  | .pbRead off cnt => Sys2Proof.Machine.execPbRead off cnt s
  | .pbWrite off data => Sys2Proof.Machine.execPbWrite off data s
  | .chkGray val => Sys2Proof.Machine.execChkGray val s
  | .shutdown => Sys2Proof.Machine.execShutdown s
  | .reservedHop x => Sys2Proof.Machine.execReservedHop x s
  | .writeBit b => Sys2Proof.Machine.execWriteBit b s
  | .writeByte v => Sys2Proof.Machine.execWriteByte v s
  | .writeUnit d v => Sys2Proof.Machine.execWriteUnit d v s
  | .reformat => Sys2Proof.Machine.execReformat s
  | .setColWin => Sys2Proof.Machine.execSetColWin s
  | .setRowWin => Sys2Proof.Machine.execSetRowWin s
  | .writeRam => Sys2Proof.Machine.execWriteRam s
  | .decode frame => Sys2Proof.Machine.execDecode frame s
  | .hostWrite off data => Sys2Proof.Machine.execHostWrite off data s
  | .transportSend frame => Sys2Proof.Machine.execTransportSend frame s
  | .opcDisplayOn => Sys2Proof.Machine.execOpcDisplayOn s
  | .opcUnlock => Sys2Proof.Machine.execOpcUnlock s
  | .opcClockDiv => Sys2Proof.Machine.execOpcClockDiv s
  | .opcMuxRatio => Sys2Proof.Machine.execOpcMuxRatio s
  | .opcDisplayOffset => Sys2Proof.Machine.execOpcDisplayOffset s
  | .opcFunctionSel => Sys2Proof.Machine.execOpcFunctionSel s
  | .opcStartLine => Sys2Proof.Machine.execOpcStartLine s
  | .opcRemap => Sys2Proof.Machine.execOpcRemap s
  | .opcContrastMaster => Sys2Proof.Machine.execOpcContrastMaster s
  | .opcContrastLevel => Sys2Proof.Machine.execOpcContrastLevel s
  | .opcPhaseLen => Sys2Proof.Machine.execOpcPhaseLen s
  | .opcPrechargeV => Sys2Proof.Machine.execOpcPrechargeV s
  | .opcExtVsl => Sys2Proof.Machine.execOpcExtVsl s
  | .opcVcomh => Sys2Proof.Machine.execOpcVcomh s
  | .opcDisplayMode => Sys2Proof.Machine.execOpcDisplayMode s
  | .opcPartialExit => Sys2Proof.Machine.execOpcPartialExit s
  | .opcEnhance => Sys2Proof.Machine.execOpcEnhance s
  | .opcGpio => Sys2Proof.Machine.execOpcGpio s
  | .opcGrayDefault => Sys2Proof.Machine.execOpcGrayDefault s
  | .opcPrecharge2 => Sys2Proof.Machine.execOpcPrecharge2 s
  | .opcSetColumn => Sys2Proof.Machine.execOpcSetColumn s
  | .opcSetRow => Sys2Proof.Machine.execOpcSetRow s
  | .opcWriteRam => Sys2Proof.Machine.execOpcWriteRam s

end Sys2Proof.Machine
end

