-- ==== Sys2Proof/Machine/Sequencer.lean ====
section
/-! DEFINITION. An operation in progress, one event at a time (42_display_update.md R125, 41_send_and_init.md R108).
`SEQ`, `UPH`, `WF`, `PI` and the units still to be packed say which event comes next; the host's requests can
land between two events (70_reset_and_hazards.md R200). -/

namespace Sys2Proof.Machine

/-- The WireFrame is zero-filled, the cursor 0, and its units wait to be packed: `first`, then the payload (R83). -/
def openFrame (first : Instr) (payload : List Byte) (s : State) : State :=
  (s.putWriter (Writer.start payload.length)).setIssue (first :: payload.map .datu)

/-- What follows a send (R107, R108, R124, R126): the next phase, the next INIT entry, or the return to the host. -/
def afterSend (r : Result) (s : State) : State :=
  match r with
  | .ok =>
    match s.uph with
    | .col => s.setPhase .row
    | .row => s.setPhase .build
    | .build => s
    | .write => (s.releaseImage.setPhase .none).finish .ok
    | .none =>
      match s.seq with
      | .sending i => initNext (i + 1) s
      | .idle | .ready | .failed => s.finish .ok
  | e => s.raise e

/-- The first event of a send (R101): the operands are latched and the WireFrame is obtained, or the send fails. -/
def acquire (first : Instr) (cmd : Byte) (payload : List Byte) (s : State) : State :=
  let s1 := (s.latchSend cmd payload).afterAlloc
  if s.allocAnswer (frameLength payload.length) then openFrame first payload s1
  else afterSend .allocationError s1

/-- The next event when no WireFrame exists: it depends on the phase, the INIT entry or the selector in progress. -/
def startNext (s : State) : State :=
  match s.uph with
  | .col => acquire .opcSetColumn (s.cfg.opcode .setColumn) (columnWindow s.cfg) s
  | .row => acquire .opcSetRow (s.cfg.opcode .setRow) (rowWindow s.cfg) s
  | .build =>
    match buildOp s with
    | (s1, .ok) => s1
    | (s1, e) => s1.raise e
  | .write => acquire .opcWriteRam (s.cfg.opcode .writeRam) (s.pi.getD []) s
  | .none =>
    match s.seq with
    | .sending i =>
      match s.cfg.initTable[i]? with
      | some (cmd, payload) => acquire (.cmdu cmd) cmd payload s
      | none => initNext i s
    | .idle | .ready | .failed =>
      if s.op = 0#4 then openFrame (.cmdu s.cmd) s.payload s else acquire (.cmdu s.cmd) s.cmd s.payload s

/-- The next event when no unit waits to be packed: a packed frame is returned (ENCODE) or handed to the transport and
released (every send); otherwise the next send or phase begins. -/
def event (s : State) : State :=
  match s.wf with
  | some F =>
    if s.op = 0#4 then s.releaseFrame.finish (.okFrame F)
    else afterSend (.ofAnswer (s.transportAnswer F)) (s.afterTransport F).releaseFrame
  | none => startNext s

/-- The host's next request is taken off the port. -/
def State.takeRequest (s : State) (rest : List HostReq) : State := { s with port := rest }

/-- The turn at the head of the schedule is used up. -/
def State.takeTurn (s : State) : State := { s with sched := s.sched.tail }

/-- Placing a host request where the next step takes it. -/
def State.placeRequest (s : State) (q : HostReq) : State :=
  { s with port := q :: s.port, sched := if s.busy then .host :: s.sched else s.sched }

/-- Placing a unit where the next step packs it: at the head of the units that wait, in the WireFrame that exists if it
has room, else in a fresh one. -/
def State.placeUnit (s : State) (i : Instr) : State :=
  let w : Writer :=
    match s.wf with
    | some F => if s.cursor + 9 ≤ 8 * F.length then ⟨F, s.cursor⟩ else Writer.start 0
    | none => Writer.start 0
  { s.putWriter w with issue := i :: s.issue, busy := true, sched := .block :: s.sched }

end Sys2Proof.Machine
end

