-- ==== Sys2Proof/Machine/Step.lean ====
section
/-! DEFINITION. One step. Between operations the block serves the host's next request, or waits for one (R191). While an
operation is in progress the schedule says whether the host or the block acts (R25, R53). -/

namespace Sys2Proof.Machine

/-- The host presents its next request (R72); with none, nothing happens. -/
def hostStep (s : State) : Host.Outcome State Fault Refusal :=
  match s.port with
  | [] => .next s
  | q :: rest => exec (decodeHost q) (s.takeRequest rest)

/-- The block goes on with the operation in progress: the next unit is packed, or the next event happens. -/
def blockStep (s : State) : Host.Outcome State Fault Refusal :=
  match s.issue with
  | i :: rest => exec i (s.setIssue rest)
  | [] => .next (event s)

def step (s : State) : Host.Outcome State Fault Refusal :=
  if s.busy then
    match s.sched with
    | .host :: _ => hostStep s.takeTurn
    | .block :: _ => blockStep s.takeTurn
    | [] => blockStep s
  else hostStep s

/-- `s` with a table word placed where the next step fetches: up to 8 bits on the host port, above that among the
units to be packed (notes/assumptions/4.md). -/
def State.withFetchWord (s : State) (nbits w : Nat) : State :=
  match decodeTableWord nbits w with
  | none => s
  | some i => if nbits ≤ 8 then s.placeRequest (bareRequest w) else s.placeUnit i

end Sys2Proof.Machine
end

