-- ==== Sys2Proof/WellFormed.lean ====
section
/-! DEFINITION. The checks an instruction's operands meet. ENCODE and SEND take payloads of at most `L_MAX` bytes
(R83, R101); what is handed to the transport is always a whole WireFrame (R100). Every other operand is legal at
every value (R41, R61, R140, R146). -/

namespace Sys2Proof

/-- Whether an instruction's operands are ones the spec gives it. -/
def wellFormed (g : Config) : Instr → Bool
  | .encode _ p | .send _ p => p.length ≤ g.lMax
  | .transportSend F => isFrame F
  | .cmdu _ | .datu _ | .init | .update | .pbRead _ _ | .pbWrite _ _ | .chkGray _ | .shutdown
  | .reservedHop _ | .writeBit _ | .writeByte _ | .writeUnit _ _ | .reformat | .setColWin | .setRowWin
  | .writeRam | .decode _ | .hostWrite _ _ | .opcDisplayOn | .opcUnlock | .opcClockDiv | .opcMuxRatio
  | .opcDisplayOffset | .opcFunctionSel | .opcStartLine | .opcRemap | .opcContrastMaster
  | .opcContrastLevel | .opcPhaseLen | .opcPrechargeV | .opcExtVsl | .opcVcomh | .opcDisplayMode
  | .opcPartialExit | .opcEnhance | .opcGpio | .opcGrayDefault | .opcPrecharge2 | .opcSetColumn
  | .opcSetRow | .opcWriteRam => true

end Sys2Proof
end

