-- ==== Sys2Proof/Safety.lean ====
section
/-! DEFINITION. The terms the statements use: when an operation is admitted, what holds between operations, how a list
of sends turns out, and the invariant every step keeps. -/

namespace Sys2Proof.Machine

/-- A host operation is admitted: the configuration is one R6 allows and no operation is in progress (R25, R172). -/
def Admits (s : State) : Prop := s.cfg.valid = true ∧ s.busy = false

/-- The host waits for the return of the operation it requests (R53): nothing of its own lands inside it. -/
def HostWaits (s : State) : Prop := s.sched = []

/-- No operation in progress and nothing left of one (R30, R34, R133): no WireFrame, no PanelImage, no unit waiting, no
phase, no INIT entry being sent. -/
structure Quiet (s : State) : Prop where
  busy   : s.busy = false
  wf     : s.wf = none
  issue  : s.issue = []
  pi     : s.pi = none
  pbOld  : s.pbOld = []
  uph    : s.uph = .none
  seq    : ∀ i, s.seq ≠ .sending i

/-- A memory in canonical form with every listed address inside the PixelBuffer (R40). -/
def PbOk (g : Config) (m : Memory) : Prop := m.wf = true ∧ ∀ c ∈ m, c.1 < g.pbSize

/-- One send, its operands as a pair. -/
abbrev SendArgs := Byte × List Byte

/-- The frame of a send. -/
def SendArgs.frame (e : SendArgs) : List Byte := encodeFrame e.1 e.2

/-- The state a list of sends leaves, each made whatever the one before answered. -/
def afterSends (es : List SendArgs) (s : State) : State :=
  match es with
  | [] => s
  | e :: es => afterSends es (sendOp e.1 e.2 s).1

/-- Every send of a list succeeds. -/
def SendsSucceed (es : List SendArgs) (s : State) : Prop :=
  match es with
  | [] => True
  | e :: es => (sendOp e.1 e.2 s).2 = .ok ∧ SendsSucceed es (sendOp e.1 e.2 s).1

/-- The log entries of successful sends. -/
def okEntries (es : List SendArgs) : List (List Byte × Answer) := es.map fun e => (e.frame, .ok)

/-- The column-window send of an UPDATE (R120). -/
def columnSend (g : Config) : SendArgs := (g.opcode .setColumn, columnWindow g)

/-- The row-window send of an UPDATE (R121). -/
def rowSend (g : Config) : SendArgs := (g.opcode .setRow, rowWindow g)

/-- The RAM-write send of an UPDATE from a PixelBuffer nothing races (R123). -/
def ramSend (s : State) : SendArgs := (s.cfg.opcode .writeRam, panelImage s.cfg s.pb.read)

/-- The phase after a phase whose event succeeds (R24): U_Col, U_Row, U_Build, U_Write, U_None, in that order. -/
def Phase.successor : Phase → Phase
  | .col => .row
  | .row => .build
  | .build => .write
  | .write | .none => .none

/-- The send of an UPDATE's phase (R124): the two window commands, and the RAM write of the `PI` that exists. -/
def phaseSend (s : State) : SendArgs :=
  match s.uph with
  | .col => columnSend s.cfg
  | .row => rowSend s.cfg
  | .build | .write | .none => (s.cfg.opcode .writeRam, s.pi.getD [])

/-- The next step serves a request of the host if one waits: the block is idle, or the schedule gives the host its turn. -/
def HostsTurn (s : State) : Prop := s.busy = false ∨ ∃ turns, s.sched = .host :: turns

/-- What every state the machine reaches satisfies, between operations and inside one. -/
structure Inv (s : State) : Prop where
  /-- `PB` is canonical and within its size (R40). -/
  pb       : PbOk s.cfg s.pb
  /-- So are the contents a racing read may still see. -/
  pbOld    : ∀ m ∈ s.pbOld, PbOk s.cfg m
  /-- Between operations nothing is left of one (R30, R34, R133). -/
  quiet    : s.busy = false → Quiet s
  /-- Only an admissible configuration runs operations (R172). -/
  valid    : s.busy = true → s.cfg.valid = true
  /-- A phase other than U_None belongs to an UPDATE in progress, and UPDATE runs only in Ready (R24, R128). -/
  updating : s.uph ≠ .none → s.busy = true ∧ s.seq = .ready ∧ s.op = 3#4
  /-- `Sending(i)` belongs to an INIT in progress and `i` is an entry's index (R23). -/
  sending  : ∀ i, s.seq = .sending i → s.busy = true ∧ i < s.cfg.nInit ∧ s.op = 2#4
  /-- Any other operation seen in progress is an ENCODE or a SEND. -/
  sole     : s.busy = true → s.uph = .none → (∀ i, s.seq ≠ .sending i) → s.op = 0#4 ∨ s.op = 1#4
  /-- `PI` exists exactly in U_Write (R28). -/
  image    : s.pi.isSome = true ↔ s.uph = .write
  /-- It has `PI_SIZE` bytes, each a grey level in both halves (R47). -/
  imageOk  : ∀ image, s.pi = some image → image.length = s.cfg.piSize ∧ ∀ b ∈ image, ∃ g, b = greyByte g
  /-- Earlier PixelBuffer contents are kept in U_Build only (R55). -/
  racing   : s.pbOld ≠ [] → s.uph = .build
  /-- No WireFrame exists in U_Build, and none without an operation (R29, R125). -/
  noFrame  : s.uph = .build → s.wf = none
  /-- Units wait only while a WireFrame exists. -/
  waiting  : s.wf = none → s.issue = []
  /-- What waits is units, and packing them makes the WireFrame that of the latched command and payload (R83). -/
  packing  : ∀ F, s.wf = some F → (∀ i ∈ s.issue, (unitOf s.cfg i).isSome = true) ∧
               s.issue.foldl (packIssued s.cfg) ⟨F, s.cursor⟩ = encodeWriter s.cmd s.payload

/-- Every sequence handed to the transport so far was a well-formed WireFrame (R100, R73). -/
def LogOk (s : State) : Prop := ∀ e ∈ s.tlog, isFrame e.1 = true

/-- What a send of (`c`, `p`) leaves when its WireFrame is not obtained (R101): nothing sent, AllocationError returned. -/
def unsent (s : State) (c : Byte) (p : List Byte) : State :=
  { s with
    cmd := c, payload := p, allocs := s.allocs.tail, draws := s.draws + 1
    returned := s.returned ++ [.allocationError] }

/-- What a send of (`c`, `p`) leaves when its WireFrame is obtained (R101): one call of the transport with the whole frame,
its answer returned unchanged, the frame released. -/
def sent (s : State) (c : Byte) (p : List Byte) : State :=
  { s with
    cmd := c, payload := p, allocs := s.allocs.tail, draws := s.draws + 1
    cursor := 9 * (1 + p.length), wf := none, issue := []
    tlog := s.tlog ++ [(encodeFrame c p, s.transportAnswer (encodeFrame c p))]
    answers := s.answers.tail
    returned := s.returned ++ [Result.ofAnswer (s.transportAnswer (encodeFrame c p))] }

/-- How an UPDATE ends (R126): it answers a next state with this result, these log entries added, and `PB`, `SEQ`,
the constants and the port's latches as they were, and nothing left in progress (R133). -/
def UpdateEnds (s : State) (r : Result) (log : List (List Byte × Answer)) : Prop :=
  ∃ t, exec .update s = .next t ∧ t.returned = s.returned ++ [r] ∧ t.tlog = s.tlog ++ log ∧
    t.cfg = s.cfg ∧ t.pb = s.pb ∧ t.seq = s.seq ∧ t.off = s.off ∧ t.cnt = s.cnt ∧ t.val = s.val ∧ t.port = s.port ∧
    Quiet t

/-- Bit `j` of a 9-bit unit in wire order: the discriminator, then the value's bits from bit 7 down (R60). -/
def unitBit (d : Bool) (v : Byte) (j : Nat) : Bool := if j = 0 then d else v.getLsbD (8 - j)

/-- A frame after a unit is packed at position `c`: the unit's bits are there, every other position is as before. -/
def PacksUnitAt (F F' : List Byte) (c : Nat) (d : Bool) (v : Byte) : Prop :=
  F'.length = F.length ∧
  (∀ j, j < 9 → streamBit F' (c + j) = (streamBit F (c + j) || unitBit d v j)) ∧
  ∀ p, p < c ∨ c + 9 ≤ p → streamBit F' p = streamBit F p

end Sys2Proof.Machine
end

