-- ==== Sys2Proof/Certificates/Slice0/Obligations.lean ====
section
/-! DEFINITION. The statements for the provers. Each names the rule it formalises; where a clause rests on a decision of
the spec's own (92_eei_decisions.md) or of this model's log, the docstring says so. -/

open Sys2Proof Sys2Proof.Machine

/-! ## Reset -/

/-- After reset (R27, R190 to R192): every PixelBuffer byte reads 0, `SEQ` is Idle, no operation is in progress, no
transient buffer exists and nothing has been sent. Beyond the zero-filled buffer these values are the spec's
decision D25. -/
def Obligations.ResetIsIdleAndZeroFilled : Prop :=
  (∀ i, State.reset.pb.read i = 0) ∧ State.reset.seq = .idle ∧ State.reset.uph = .none ∧
    State.reset.busy = false ∧ State.reset.tlog = [] ∧ State.reset.wf = none ∧ State.reset.pi = none ∧
    State.reset.cfg.pbSize = 4096 ∧ State.reset.cfg.piSize = 8192

/-! ## The encoder -/

/-- WRITE_BIT (R80): the bit at the cursor is OR-ed with `b`, every other position and every other field is as before, the
cursor moves by one. -/
def Obligations.WriteBitSetsTheBitAtTheCursor : Prop :=
  ∀ (s : State) (F : List Byte) (b : Bool), s.wf = some F → s.cursor < 8 * F.length →
    ∃ F', exec (.writeBit b) s = .next { s with wf := some F', cursor := s.cursor + 1 } ∧ F'.length = F.length ∧
      streamBit F' s.cursor = (streamBit F s.cursor || b) ∧ ∀ p, p ≠ s.cursor → streamBit F' p = streamBit F p

/-- WRITE_BYTE (R81): bit `7 - j` of `v` lands at position `cursor + j`. -/
def Obligations.WriteByteWritesMostSignificantBitFirst : Prop :=
  ∀ (s : State) (F : List Byte) (v : Byte), s.wf = some F → s.cursor + 8 ≤ 8 * F.length →
    ∃ F', exec (.writeByte v) s = .next { s with wf := some F', cursor := s.cursor + 8 } ∧ F'.length = F.length ∧
      (∀ j, j < 8 → streamBit F' (s.cursor + j) = (streamBit F (s.cursor + j) || v.getLsbD (7 - j))) ∧
      ∀ p, p < s.cursor ∨ s.cursor + 8 ≤ p → streamBit F' p = streamBit F p

/-- WRITE_UNIT (R82): the discriminator at the cursor, then the value, most significant bit first; the cursor moves by
nine. That executing a unit format CMDU or DATU (R60) packs its unit the same way is the model's choice
(notes/assumptions/14.md). -/
def Obligations.UnitsArePackedAtTheCursor : Prop :=
  ∀ (s : State) (F : List Byte) (d : Bool) (v : Byte), s.wf = some F → s.cursor + 9 ≤ 8 * F.length →
    (∃ F', exec (.writeUnit d v) s = .next { s with wf := some F', cursor := s.cursor + 9 } ∧
      PacksUnitAt F F' s.cursor d v) ∧
    (∃ F', exec (.cmdu v) s = .next { s with wf := some F', cursor := s.cursor + 9 } ∧
      PacksUnitAt F F' s.cursor false v) ∧
    (∃ F', exec (.datu v) s = .next { s with wf := some F', cursor := s.cursor + 9 } ∧
      PacksUnitAt F F' s.cursor true v)

/-- Each of the 23 command symbols (R70) packs the command unit of its `CMD_TABLE` byte, whatever the table. R70 lists the
commands; that executing a symbol packs its unit is the model's choice (notes/assumptions/14.md). -/
def Obligations.CommandSymbolsPackTheirOpcode : Prop :=
  ∀ (i : Instr) (c : Cmd) (s : State) (F : List Byte), i.command? = some c → s.wf = some F →
    s.cursor + 9 ≤ 8 * F.length →
    ∃ F', exec i s = .next { s with wf := some F', cursor := s.cursor + 9 } ∧
      PacksUnitAt F F' s.cursor false (s.cfg.cmdTable.get c.index)

/-- A packing sub-operation stops where R80's precondition fails: with no WireFrame in existence (R29), or with too few
bits left in it for its one bit, its eight, or its nine: WRITE_BIT, WRITE_BYTE, and WRITE_UNIT, CMDU, DATU and the 23
command symbols. The spec gives no effect there; the two named faults are the model's (notes/assumptions/8.md). -/
def Obligations.PackingStopsOutsideTheFrame : Prop :=
  (∀ (s : State) (b : Bool) (v : Byte),
    (s.wf = none → exec (.writeBit b) s = .fault .noFrame ∧ exec (.writeByte v) s = .fault .noFrame ∧
      exec (.writeUnit b v) s = .fault .noFrame) ∧
    ∀ F, s.wf = some F →
      (8 * F.length ≤ s.cursor → exec (.writeBit b) s = .fault .pastFrameEnd) ∧
      (8 * F.length < s.cursor + 8 → exec (.writeByte v) s = .fault .pastFrameEnd) ∧
      (8 * F.length < s.cursor + 9 → exec (.writeUnit b v) s = .fault .pastFrameEnd)) ∧
  ∀ (s : State) (i : Instr), (unitOf s.cfg i).isSome = true →
    (s.wf = none → exec i s = .fault .noFrame) ∧
    ∀ F, s.wf = some F → 8 * F.length < s.cursor + 9 → exec i s = .fault .pastFrameEnd

/-- The length law (R86): `ceil(9 * (L + 1) / 8)` bytes, which is `L + 2 + (L div 8)`, for every command and payload. -/
def Obligations.EncodeLengthLaw : Prop :=
  ∀ (c : Byte) (p : List Byte),
    (encodeFrame c p).length = (9 * (p.length + 1) + 7) / 8 ∧
    (encodeFrame c p).length = p.length + 2 + p.length / 8

/-- The layout of a WireFrame (R62): unit 0 has discriminator 0 and the command, unit `k` discriminator 1 and payload byte
`k - 1`, most significant bit first, back to back from position 0; every later position is 0. -/
def Obligations.WireFrameLayout : Prop :=
  ∀ (c : Byte) (p : List Byte),
    (encodeFrame c p).length = (9 * (1 + p.length) + 7) / 8 ∧
    (∀ j, j < 9 → streamBit (encodeFrame c p) j = unitBit false c j) ∧
    (∀ k j, k < p.length → j < 9 →
      streamBit (encodeFrame c p) (9 * (k + 1) + j) = unitBit true (p.getD k 0) j) ∧
    ∀ n, 9 * (1 + p.length) ≤ n → streamBit (encodeFrame c p) n = false

/-- The closed form (R84): ENCODE gives the big-endian bytes of the units' concatenation shifted over the pad bits. The
spec derives R84 from R80 to R83. -/
def Obligations.EncodeEqualsItsClosedForm : Prop :=
  ∀ (c : Byte) (p : List Byte), encodeFrame c p = closedFormFrame c p

/-- The round trip (R91), for payloads of every length: decoding a frame gives back the command and the payload, and every
well-formed frame is the encoding of what it decodes to. -/
def Obligations.DecodeInvertsEncode : Prop :=
  (∀ (c : Byte) (p : List Byte), decodeFrame (encodeFrame c p) = .ok (c, p)) ∧
    ∀ F : List Byte, isFrame F = true → ∃ c p, decodeFrame F = .ok (c, p) ∧ encodeFrame c p = F

/-- The prefix law (R93, which the spec derives): extending a payload only appends to the bit stream. -/
def Obligations.ExtendingAPayloadAppends : Prop :=
  ∀ (c : Byte) (p q : List Byte),
    (encodeFrame c (p ++ q)).take (9 * (1 + p.length) / 8) = (encodeFrame c p).take (9 * (1 + p.length) / 8) ∧
    ∀ n, n < 9 * (1 + p.length) → streamBit (encodeFrame c (p ++ q)) n = streamBit (encodeFrame c p) n

/-- ENCODE (R83): the WireFrame is the result; nothing is sent, nothing drawn, and apart from the operand latches, the
cursor and the record of results nothing changes. -/
def Obligations.EncodeReturnsTheFrame : Prop :=
  ∀ (s : State) (c : Byte) (p : List Byte), Admits s → HostWaits s → p.length ≤ s.cfg.lMax →
    exec (.encode c p) s = .next { s with
      op := 0#4, cmd := c, payload := p, cursor := 9 * (1 + p.length), wf := none, issue := []
      returned := s.returned ++ [.okFrame (encodeFrame c p)] }

/-- A payload longer than `L_MAX` is refused by ENCODE and by SEND (R85, R172; the spec's decision D6). -/
def Obligations.OverlongPayloadsAreRefused : Prop :=
  ∀ (s : State) (c : Byte) (p : List Byte), Admits s → s.cfg.lMax < p.length →
    exec (.encode c p) s = .refused .payloadTooLong ∧ exec (.send c p) s = .refused .payloadTooLong

/-- DECODE (R90): on a well-formed frame it returns the command and the payload and changes nothing else. -/
def Obligations.DecodeReturnsCommandAndPayload : Prop :=
  ∀ (s : State) (F : List Byte), isFrame F = true →
    exec (.decode F) s = .next { s with
      returned := s.returned ++ [.okDecoded (unitValue F 0)
        ((List.range (8 * F.length / 9 - 1)).map fun k => unitValue F (k + 1))] } ∧
    ∀ k j, j < 8 → (unitValue F k).getLsbD (7 - j) = streamBit F (9 * k + 1 + j)

/-- DECODE refuses a malformed frame by the first check that fails: length, first discriminator, later discriminators, pad
bits (R90, R73; the refusals are the spec's decision D34). -/
def Obligations.DecodeRefusesMalformedFrames : Prop :=
  ∀ (s : State) (F : List Byte),
    (F.length < 2 ∨ F.length % 9 = 1 → exec (.decode F) s = .refused .badLength) ∧
    (2 ≤ F.length → F.length % 9 ≠ 1 → streamBit F 0 = true →
      exec (.decode F) s = .refused .firstUnitNotCommand) ∧
    (2 ≤ F.length → F.length % 9 ≠ 1 → streamBit F 0 = false →
      (∃ k, 1 ≤ k ∧ k < 8 * F.length / 9 ∧ streamBit F (9 * k) = false) →
      exec (.decode F) s = .refused .laterUnitNotData) ∧
    (2 ≤ F.length → F.length % 9 ≠ 1 → streamBit F 0 = false →
      (∀ k, 1 ≤ k → k < 8 * F.length / 9 → streamBit F (9 * k) = true) →
      (∃ p, 9 * (8 * F.length / 9) ≤ p ∧ p < 8 * F.length ∧ streamBit F p = true) →
      exec (.decode F) s = .refused .nonzeroPad)

/-! ## SEND and the transport -/

/-- `Transport.send(F)` (R100, R33): the call and its answer are appended to the log, the answer is returned unchanged,
nothing else changes. -/
def Obligations.TransportSendLogsTheCall : Prop :=
  ∀ (s : State) (F : List Byte),
    exec (.transportSend F) s = .next { s with
      tlog := s.tlog ++ [(F, s.transportAnswer F)], answers := s.answers.tail
      returned := s.returned ++ [Result.ofAnswer (s.transportAnswer F)] }

/-- SEND (R101): without a WireFrame it returns AllocationError and sends nothing; with one it makes exactly one call of
the transport, with the whole frame, returns the answer unchanged and releases the frame. That an AllocationError can be
returned is the spec's decision D14; that the transport answers is D30 (notes/assumptions/13.md). -/
def Obligations.SendMakesOneTransportCall : Prop :=
  ∀ (s : State) (c : Byte) (p : List Byte), Admits s → HostWaits s → p.length ≤ s.cfg.lMax →
    (s.allocAnswer (encodeFrame c p).length = false → exec (.send c p) s = .next { unsent s c p with op := 1#4 }) ∧
    (s.allocAnswer (encodeFrame c p).length = true → exec (.send c p) s = .next { sent s c p with op := 1#4 })

/-! ## INIT and SHUTDOWN -/

/-- INIT (R107) when every send succeeds: `SEQ` is Ready, the result OK, and the log is extended by the table's frames in
order, each answered OK; `PB`, the constants and the phase are as before. -/
def Obligations.InitSendsTheWholeTable : Prop :=
  ∀ s : State, Admits s → HostWaits s → s.cfg.initFits = true → SendsSucceed s.cfg.initTable s →
    ∃ t, exec .init s = .next t ∧ t.seq = .ready ∧ t.returned = s.returned ++ [.ok] ∧
      t.tlog = s.tlog ++ okEntries s.cfg.initTable ∧ t.busy = false ∧ t.cfg = s.cfg ∧ t.pb = s.pb ∧ t.uph = s.uph

/-- Fail-fast (R109): with the sends before entry `k` successful and entry `k` failing, INIT ends in Failed with the error
of entry `k` unchanged; the log gains `k + 1` entries if the transport failed it, `k` if its WireFrame was not
obtained. That an AllocationError takes the edge to Failed as a TransportError does is the spec's decision D14 (R108,
notes/assumptions/17.md). -/
def Obligations.InitStopsAtTheFirstFailure : Prop :=
  ∀ (s : State) (done rest : List SendArgs) (e : SendArgs), Admits s → HostWaits s → s.cfg.initFits = true →
    s.cfg.initTable = done ++ e :: rest → SendsSucceed done s →
    (∀ err, (afterSends done s).allocAnswer e.frame.length = true →
      (afterSends done s).transportAnswer e.frame = .error err →
      ∃ t, exec .init s = .next t ∧ t.seq = .failed ∧ t.returned = s.returned ++ [.transportError err] ∧
        t.tlog = s.tlog ++ okEntries done ++ [(e.frame, .error err)] ∧ t.busy = false ∧ t.cfg = s.cfg ∧ t.pb = s.pb) ∧
    ((afterSends done s).allocAnswer e.frame.length = false →
      ∃ t, exec .init s = .next t ∧ t.seq = .failed ∧ t.returned = s.returned ++ [.allocationError] ∧
        t.tlog = s.tlog ++ okEntries done ∧ t.busy = false ∧ t.cfg = s.cfg ∧ t.pb = s.pb)

/-- INIT with any draws (R165, R168): it answers a next state, Ready with OK or Failed with one error, and changes nothing
but `SEQ`, the log, the latches, the cursor and the record of results; nothing is left in progress. That an
AllocationError takes the same edge as a TransportError is the spec's decision D14; that INIT always answers rests on every
call of the transport returning (R100, R179, D30), which is presumed (notes/assumptions/13.md). -/
def Obligations.InitEndsReadyOrFailed : Prop :=
  ∀ s : State, Admits s → HostWaits s → Quiet s → s.cfg.initFits = true →
    ∃ t r, exec .init s = .next t ∧ t.returned = s.returned ++ [r] ∧
      (r = .ok ∧ t.seq = .ready ∨ t.seq = .failed ∧ (r = .allocationError ∨ ∃ e, r = .transportError e)) ∧
      Quiet t ∧ t.cfg = s.cfg ∧ t.pb = s.pb ∧ t.off = s.off ∧ t.cnt = s.cnt ∧ t.val = s.val ∧ t.port = s.port ∧
      t.tlog.length ≤ s.tlog.length + s.cfg.nInit

/-- The state machine of INIT seen one event at a time (R108): at entry `i` the WireFrame of that entry is obtained, its
command and payload latched, and INIT stays at `i`, or it is not obtained and INIT ends in Failed with AllocationError,
nothing sent (the spec's decision D14). With the frame packed, the frame is handed over: an answer OK moves `Sending(i)`
to `Sending(i + 1)`, the last one to Ready with result OK; an error moves it to Failed with that error. Which events there
are is the model's granularity (notes/assumptions/4.md). -/
def Obligations.InitMovesOneEntryPerSend : Prop :=
  ∀ (s : State) (i : Nat), Inv s → s.seq = .sending i →
    (∀ c p, s.wf = none → s.cfg.initTable[i]? = some (c, p) →
      (event s).tlog = s.tlog ∧
      (s.allocAnswer (encodeFrame c p).length = true →
        (event s).seq = .sending i ∧ (event s).returned = s.returned ∧ (event s).busy = true ∧
        (event s).wf = some (zeros (encodeFrame c p).length) ∧ (event s).cursor = 0 ∧
        (event s).cmd = c ∧ (event s).payload = p) ∧
      (s.allocAnswer (encodeFrame c p).length = false →
        (event s).seq = .failed ∧ (event s).returned = s.returned ++ [.allocationError] ∧ (event s).busy = false)) ∧
    ∀ F, s.wf = some F → s.issue = [] →
      (event s).tlog = s.tlog ++ [(F, s.transportAnswer F)] ∧
      (s.transportAnswer F = .ok → i + 1 < s.cfg.nInit →
        (event s).seq = .sending (i + 1) ∧ (event s).returned = s.returned ∧ (event s).busy = true) ∧
      (s.transportAnswer F = .ok → i + 1 = s.cfg.nInit →
        (event s).seq = .ready ∧ (event s).returned = s.returned ++ [.ok] ∧ (event s).busy = false) ∧
      (∀ e, s.transportAnswer F = .error e →
        (event s).seq = .failed ∧ (event s).returned = s.returned ++ [.transportError e] ∧ (event s).busy = false)

/-- SHUTDOWN (R112): it returns OK and changes nothing; the selector held is the model's own field. -/
def Obligations.ShutdownChangesNothing : Prop :=
  ∀ s : State, Admits s →
    exec .shutdown s = .next { s with op := 7#4, returned := s.returned ++ [.ok] }

/-! ## UPDATE -/

/-- SETCOLWIN and SETROWWIN (R120, R121): each is one send of its opcode with start before end (R67, the spec's decision
D8), a frame of four bytes; apart from what a send does (R101; its AllocationError is D14, its answer D30) nothing
changes. That the two have a meaning on their own is the model's choice (notes/assumptions/15.md). -/
def Obligations.WindowCommandsSendTheirBounds : Prop :=
  ∀ s : State, 2 ≤ s.cfg.lMax →
    (encodeFrame (s.cfg.opcode .setColumn) [s.cfg.colStart, s.cfg.colEnd]).length = 4 ∧
    (s.allocAnswer 4 = false →
      exec .setColWin s = .next (unsent s (s.cfg.opcode .setColumn) [s.cfg.colStart, s.cfg.colEnd]) ∧
      exec .setRowWin s = .next (unsent s (s.cfg.opcode .setRow) [s.cfg.rowStart, s.cfg.rowEnd])) ∧
    (s.allocAnswer 4 = true →
      exec .setColWin s = .next (sent s (s.cfg.opcode .setColumn) [s.cfg.colStart, s.cfg.colEnd]) ∧
      exec .setRowWin s = .next (sent s (s.cfg.opcode .setRow) [s.cfg.rowStart, s.cfg.rowEnd]))

/-- Nibble duplication (R130): both output bytes in both of the rule's forms, and the input byte recovered from them. -/
def Obligations.NibbleDuplicationLaw : Prop :=
  ∀ b : Byte, pixelPair b = [((b >>> 4) <<< 4) ||| (b >>> 4), ((b &&& 0x0F) <<< 4) ||| (b &&& 0x0F)] ∧
    pixelPair b = [(b &&& 0xF0) ||| (b >>> 4), ((b <<< 4) &&& 0xF0) ||| (b &&& 0x0F)] ∧
    (∀ hi lo, pixelPair b = [hi, lo] → b = (hi &&& 0xF0) ||| (lo &&& 0x0F)) ∧
    ∀ o ∈ pixelPair b, 0x11 ∣ o.toNat

/-- REFORMAT (R122, R47), with no write racing it: all `PI_SIZE` bytes of `PI` are written, bytes `2i` and `2i + 1` from
PixelBuffer byte `i`, high nibble first, and nothing else changes. -/
def Obligations.ReformatBuildsThePanelImage : Prop :=
  ∀ s : State, s.cfg.valid = true → s.pbOld = [] →
    ∃ image, exec .reformat s = .next { s with pi := some image } ∧ image.length = s.cfg.piSize ∧
      ∀ i, i < s.cfg.pbSize →
        image.getD (2 * i) 0 = greyByte (highNibble (s.pb.read i)) ∧
        image.getD (2 * i + 1) 0 = greyByte (lowNibble (s.pb.read i))

/-- The pixel at column `x` of row `y` (R42, R47, R132): its PanelImage byte repeats its nibble, found with the stride
`W / 2`. -/
def Obligations.PanelImagePixelAt : Prop :=
  ∀ (g : Config) (m : Memory) (x y : Nat), g.valid = true → x < g.width → y < g.height →
    (panelImage g m.read).getD (y * g.width + x) 0 =
      greyByte (if x % 2 = 0 then highNibble (m.read (y * (g.width / 2) + x / 2))
        else lowNibble (m.read (y * (g.width / 2) + x / 2)))

/-- Idempotence (R129): with no write racing, the image depends on the PixelBuffer's bytes and the geometry alone. -/
def Obligations.PanelImageDependsOnThePixelBufferOnly : Prop :=
  ∀ s t : State, s.cfg.width = t.cfg.width → s.cfg.height = t.cfg.height → s.pbOld = [] → t.pbOld = [] → (∀ i, i < s.cfg.pbSize → s.pb.read i = t.pb.read i) →
    s.reformatted = t.reformatted

/-- WRITERAM (R123) with no write racing it: without a PanelImage it returns AllocationError and sends nothing; otherwise
it makes the RAM-write send of the image and returns that send's result (D14, D30). `PI` is released either way. That
`UPH` is left at U_Write after a send, and at U_None when the image is not obtained (R164), is how the model runs
WRITERAM on its own (notes/assumptions/15.md). -/
def Obligations.WriteRamSendsThePanelImage : Prop :=
  ∀ s : State, s.cfg.piSize ≤ s.cfg.lMax → s.pbOld = [] →
    ∃ t, exec .writeRam s = .next t ∧ t.pi = none ∧ (s.wf = none → t.wf = none) ∧ t.pb = s.pb ∧ t.seq = s.seq ∧
      t.busy = s.busy ∧ t.cfg = s.cfg ∧ t.off = s.off ∧ t.cnt = s.cnt ∧ t.val = s.val ∧ t.op = s.op ∧ t.port = s.port ∧
      (s.allocAnswer s.cfg.piSize = false → t.tlog = s.tlog ∧ t.uph = .none ∧
        t.returned = s.returned ++ [.allocationError]) ∧
      (s.allocAnswer s.cfg.piSize = true → t.uph = .write ∧ t.cmd = s.cfg.opcode .writeRam ∧
        t.payload = panelImage s.cfg s.pb.read ∧
        (s.afterAlloc.allocAnswer (ramSend s).frame.length = false → t.tlog = s.tlog ∧
          t.returned = s.returned ++ [.allocationError]) ∧
        (s.afterAlloc.allocAnswer (ramSend s).frame.length = true →
          t.tlog = s.tlog ++ [((ramSend s).frame, s.transportAnswer (ramSend s).frame)] ∧
          t.returned = s.returned ++ [Result.ofAnswer (s.transportAnswer (ramSend s).frame)]))

/-- UPDATE (R124) when every send and the PanelImage succeed: exactly three frames, column window, row window, RAM write of
the reformatted PixelBuffer, in that order; the whole next state. That UPDATE asks for Ready is the spec's decision
D17. -/
def Obligations.UpdateSendsThreeFrames : Prop :=
  ∀ s : State, Admits s → HostWaits s → Quiet s → s.seq = .ready → s.cfg.updateFits = true →
    SendsSucceed [columnSend s.cfg, rowSend s.cfg] s →
    (afterSends [columnSend s.cfg, rowSend s.cfg] s).allocAnswer s.cfg.piSize = true →
    SendsSucceed [ramSend s] (afterSends [columnSend s.cfg, rowSend s.cfg] s).afterAlloc →
    exec .update s = .next { s with
      op := 3#4, cmd := s.cfg.opcode .writeRam, payload := panelImage s.cfg s.pb.read
      cursor := 9 * (1 + (panelImage s.cfg s.pb.read).length)
      tlog := s.tlog ++ okEntries [columnSend s.cfg, rowSend s.cfg, ramSend s]
      answers := s.answers.drop 3, allocs := s.allocs.drop 4, draws := s.draws + 4
      returned := s.returned ++ [.ok] }

/-- The error exits of UPDATE, row by row (R126): the column send fails, the row send fails, the PanelImage is not
obtained, the RAM-write send fails. A failed send adds its frame if the transport refused it and nothing if its
WireFrame was not obtained. -/
def Obligations.UpdateErrorExits : Prop :=
  ∀ s : State, Admits s → HostWaits s → Quiet s → s.seq = .ready → s.cfg.updateFits = true →
    let col := columnSend s.cfg
    let row := rowSend s.cfg
    let ram := ramSend s
    let s1 := afterSends [col] s
    let s2 := afterSends [col, row] s
    (s.allocAnswer col.frame.length = false → UpdateEnds s .allocationError []) ∧
    (∀ e, s.allocAnswer col.frame.length = true → s.transportAnswer col.frame = .error e →
      UpdateEnds s (.transportError e) [(col.frame, .error e)]) ∧
    (SendsSucceed [col] s → s1.allocAnswer row.frame.length = false →
      UpdateEnds s .allocationError (okEntries [col])) ∧
    (∀ e, SendsSucceed [col] s → s1.allocAnswer row.frame.length = true → s1.transportAnswer row.frame = .error e →
      UpdateEnds s (.transportError e) (okEntries [col] ++ [(row.frame, .error e)])) ∧
    (SendsSucceed [col, row] s → s2.allocAnswer s.cfg.piSize = false →
      UpdateEnds s .allocationError (okEntries [col, row])) ∧
    (SendsSucceed [col, row] s → s2.allocAnswer s.cfg.piSize = true →
      s2.afterAlloc.allocAnswer ram.frame.length = false →
      UpdateEnds s .allocationError (okEntries [col, row])) ∧
    (∀ e, SendsSucceed [col, row] s → s2.allocAnswer s.cfg.piSize = true →
      s2.afterAlloc.allocAnswer ram.frame.length = true → s2.transportAnswer ram.frame = .error e →
      UpdateEnds s (.transportError e) (okEntries [col, row] ++ [(ram.frame, .error e)]))

/-- UPDATE changes no architectural state, with any result (R134, which the spec derives): whatever the draws, it answers
a next state with `PB`, `SEQ`, the constants and `BUSY` as before and no buffer alive. That it always answers rests on
every call of the transport returning (R100, R179, D30), which is presumed (notes/assumptions/13.md). -/
def Obligations.UpdateChangesNoArchitecturalState : Prop :=
  ∀ s : State, Admits s → HostWaits s → Quiet s → s.seq = .ready → s.cfg.updateFits = true →
    ∃ t r, exec .update s = .next t ∧ t.returned = s.returned ++ [r] ∧
      (r = .ok ∨ r = .allocationError ∨ ∃ e, r = .transportError e) ∧
      t.cfg = s.cfg ∧ t.pb = s.pb ∧ t.seq = .ready ∧ Quiet t ∧ t.off = s.off ∧ t.cnt = s.cnt ∧ t.val = s.val ∧
      t.port = s.port ∧ (t.tlog.length ≤ s.tlog.length + 3)

/-- UPDATE outside Ready is refused (R128; the spec's decision D17). So is HOSTWRITE's update (R145, R172); that the whole
HOSTWRITE is refused then, its write included, is the model's choice (notes/assumptions/12.md). -/
def Obligations.UpdateIsRefusedUnlessReady : Prop :=
  ∀ (s : State) (off : Nat) (data : List Byte), Admits s → s.seq ≠ .ready →
    exec .update s = .refused .notReady ∧
    (off ≤ s.cfg.pbSize → exec (.hostWrite off data) s = .refused .notReady)

/-- The sizes at 128×64 (R131, which the spec derives): two frames of 4 bytes and one of 9218. -/
def Obligations.UpdateFrameSizes : Prop :=
  ∀ s : State, s.cfg.width = 128 → s.cfg.height = 64 →
    (columnSend s.cfg).frame.length = 4 ∧ (rowSend s.cfg).frame.length = 4 ∧ (ramSend s).frame.length = 9218

/-! ## The PixelBuffer port -/

/-- PB_READ (R141, R44): the bytes from the offset on that exist, none at or beyond the end; a read is never rejected and
changes nothing but the operand latches and the record of results. Shortening is the spec's decision D33. -/
def Obligations.PbReadReturnsTheBytesThatExist : Prop :=
  ∀ (s : State) (off cnt : Nat), Admits s →
    ∃ bytes, exec (.pbRead off cnt) s = .next { s with
        op := 4#4, off := off, cnt := cnt, returned := s.returned ++ [.okBytes bytes] } ∧
      (off ≥ s.cfg.pbSize → bytes = []) ∧
      (off < s.cfg.pbSize → bytes.length = min cnt (s.cfg.pbSize - off) ∧
        ∀ j, j < min cnt (s.cfg.pbSize - off) → bytes.getD j 0 = s.pb.read (off + j))

/-- PB_WRITE between operations (R142, R45): beyond the end it is rejected and nothing is written; otherwise the first
`min(cnt, PB_SIZE - off)` bytes are stored, that count is returned, and every other byte reads as before. That an offset
equal to `PB_SIZE` writes nothing and is not rejected is the spec's decision D21. -/
def Obligations.PbWriteStoresUpToTheCapacity : Prop :=
  ∀ (s : State) (off : Nat) (data : List Byte), Admits s → Quiet s → s.pb.wf = true →
    (off > s.cfg.pbSize → exec (.pbWrite off data) s = .next { s with
      op := 5#4, off := off, cnt := data.length, returned := s.returned ++ [.offsetRejected] }) ∧
    (off ≤ s.cfg.pbSize → ∃ m, exec (.pbWrite off data) s = .next { s with
        op := 5#4, off := off, cnt := data.length, pb := m
        returned := s.returned ++ [.okCount (min data.length (s.cfg.pbSize - off))] } ∧ m.wf = true ∧
      ∀ a, m.read a = if off ≤ a ∧ a < off + min data.length (s.cfg.pbSize - off) then data.getD (a - off) 0
        else s.pb.read a)

/-- A PB_WRITE while an UPDATE is in progress (R25, R200; the spec's decision D20): it is admitted, writes or is rejected as
between operations (R142), and the UPDATE stays in progress in its phase; in U_Build the contents it replaces stay
readable. -/
def Obligations.PbWriteMayOverlapAnUpdate : Prop :=
  ∀ (s : State) (off : Nat) (data : List Byte), s.cfg.valid = true → s.busy = true → s.uph ≠ .none →
    (off > s.cfg.pbSize → exec (.pbWrite off data) s = .next { s with
      off := off, cnt := data.length, returned := s.returned ++ [.offsetRejected] }) ∧
    (off ≤ s.cfg.pbSize → exec (.pbWrite off data) s = .next { s with
      off := off, cnt := data.length
      pb := s.pb.writeBytes off (data.take (min data.length (s.cfg.pbSize - off)))
      pbOld := if s.uph = .build then s.pb :: s.pbOld else s.pbOld
      returned := s.returned ++ [.okCount (min data.length (s.cfg.pbSize - off))] })

/-- The race (R55; the spec's decision D20): each PanelImage pair comes from that PixelBuffer byte as it is now or as it
was at some moment of the U_Build phase, byte by byte, whatever the free values say. -/
def Obligations.RacingReadsSeeOldOrNewBytes : Prop :=
  ∀ s : State, s.cfg.valid = true →
    ∃ image, exec .reformat s = .next { s with pi := some image, pbOld := [] } ∧ image.length = s.cfg.piSize ∧
      ∀ i, i < s.cfg.pbSize → ∃ m ∈ s.pb :: s.pbOld,
        image.getD (2 * i) 0 = greyByte (highNibble (m.read i)) ∧
        image.getD (2 * i + 1) 0 = greyByte (lowNibble (m.read i))

/-- CHKGRAY (R146, R163): RangeError exactly above 15; nothing is sent and nothing else changes. The operation that carries
the check is the spec's decision D24. -/
def Obligations.ChkGrayChecksTheRange : Prop :=
  ∀ (s : State) (v : Nat), Admits s →
    exec (.chkGray v) s = .next { s with
      op := 6#4, val := v, returned := s.returned ++ [if 16 ≤ v then .rangeError else .ok] }

/-- HOSTWRITE (R145; the spec's decision D23): a rejected write ends it; otherwise it is the PB_WRITE followed by one
UPDATE of the written buffer, both results returned in that order. That the UPDATE always answers rests on D30
(notes/assumptions/13.md). -/
def Obligations.HostWriteIsAWriteThenAnUpdate : Prop :=
  ∀ (s : State) (off : Nat) (data : List Byte), Admits s →
    (off > s.cfg.pbSize → exec (.hostWrite off data) s = .next { s with
      op := 5#4, off := off, cnt := data.length, returned := s.returned ++ [.offsetRejected] }) ∧
    (off ≤ s.cfg.pbSize → ∃ s1, exec (.pbWrite off data) s = .next s1 ∧ exec (.hostWrite off data) s = exec .update s1 ∧
      s1.returned = s.returned ++ [.okCount (min data.length (s.cfg.pbSize - off))] ∧
      (HostWaits s → Quiet s → s.seq = .ready → s.cfg.updateFits = true →
        ∃ t, exec (.hostWrite off data) s = .next t ∧ t.pb = s1.pb ∧ t.seq = .ready ∧ Quiet t))

/-- The reserved selectors are refused in every state (R74, R172; the spec's decision D4). -/
def Obligations.ReservedSelectorsAreRefused : Prop :=
  ∀ (q : HostReq) (s : State), 8 ≤ q.op.toNat → exec (decodeHost q) s = .refused .reservedOp

/-- While an operation is in progress every other host operation is refused, a PB_WRITE included unless an UPDATE is in
progress (R200; the spec's decisions D19, D20); under a configuration R6 excludes every host operation is (D35). R172
does not say which reason is given where two hold: that the configuration comes before BUSY, and BUSY before an
operation's own checks, is the model's order (notes/assumptions/10.md). -/
def Obligations.BusyOrMisconfiguredBlocksRefuse : Prop :=
  ∀ (q : HostReq) (s : State), q.op.toNat < 8 →
    (s.cfg.valid = false → exec (decodeHost q) s = .refused .badConfig) ∧
    (s.cfg.valid = true → s.busy = true → q.op.toNat ≠ 5 ∨ s.uph = .none →
      exec (decodeHost q) s = .refused .busy)

/-! ## Steps and decoding -/

/-- A step runs the decoded instruction. Idle, it takes the next request off the port and is exec of what it decodes to; idle
with an empty port it changes nothing. In progress, the schedule's head says who acts: the host's turn takes the next
request likewise, the block's turn is exec of the next waiting unit. The schedule is the model's
(notes/assumptions/4.md). -/
def Obligations.StepRunsTheDecodedInstruction : Prop :=
  (∀ (s : State) (q : HostReq) (rest : List HostReq), s.busy = false → s.port = q :: rest →
    step s = exec (decodeHost q) { s with port := rest }) ∧
  (∀ s : State, s.busy = false → s.port = [] → step s = .next s) ∧
  (∀ (s : State) (q : HostReq) (rest : List HostReq) (turns : List Turn), s.busy = true →
    s.sched = .host :: turns → s.port = q :: rest →
    step s = exec (decodeHost q) { s with sched := turns, port := rest }) ∧
  (∀ (s : State) (i : Instr) (waiting : List Instr) (turns : List Turn), s.busy = true →
    s.sched = .block :: turns → s.issue = i :: waiting →
    step s = exec i { s with sched := turns, issue := waiting }) ∧
  ∀ (s : State) (i : Instr) (waiting : List Instr), s.busy = true → s.sched = [] → s.issue = i :: waiting →
    step s = exec i { s with issue := waiting }

/-- Words written out from R72's selector table (the spec's decision D4) and R60's unit patterns decode to their operations.
That a bare selector carries zero operands is the model's (notes/assumptions/18.md). -/
def Obligations.WrittenOutWordsDecode : Prop :=
  decodeTableWord 8 0b0000 = some (.encode 0 []) ∧ decodeTableWord 8 0b0001 = some (.send 0 []) ∧
  decodeTableWord 8 0b0010 = some .init ∧ decodeTableWord 8 0b0011 = some .update ∧
  decodeTableWord 8 0b0100 = some (.pbRead 0 0) ∧ decodeTableWord 8 0b0101 = some (.pbWrite 0 []) ∧
  decodeTableWord 8 0b0110 = some (.chkGray 0) ∧ decodeTableWord 8 0b0111 = some .shutdown ∧
  decodeTableWord 8 0b1010 = some (.reservedHop 2) ∧
  decodeTableWord 16 0b010101110 = some (.cmdu 0xAE) ∧ decodeTableWord 16 0b100010010 = some (.datu 0x12)

/-- Decoding the words of an instruction gives the instruction back, with every operand: host operations and units (R60) as
themselves; rows of format INTERNAL have no words. The selector codes are the spec's decision D4 (R72), and how a request
carries the operands is the model's (notes/assumptions/18.md). That a command symbol's word is the command unit of its
opcode, and decodes to CMDU of that byte, is the model's choice (notes/assumptions/14.md). -/
def Obligations.WordsDecodeToTheirInstruction : Prop :=
  ∀ (g : Config) (i : Instr), decodeWords (encode g i) = i.canonical g

/-! ## Invariants -/

/-- The invariant holds after reset. -/
def Obligations.ResetMeetsTheInvariant : Prop := Inv State.reset

/-- Every step keeps the invariant: the PixelBuffer canonical and within its size, nothing left between operations, phases
and INIT entries only inside their operations, `PI` exactly in U_Write and of grey bytes, and every frame in progress on
its way to the encoding of its command and payload. -/
def Obligations.StepKeepsTheInvariant : Prop :=
  ∀ s t : State, Inv s → step s = .next t → Inv t

/-- Everything the block hands to the transport is a whole well-formed WireFrame (R100, R73, R75): every step keeps the log
so. -/
def Obligations.StepLogsOnlyWellFormedFrames : Prop :=
  ∀ s t : State, Inv s → LogOk s → step s = .next t → LogOk t

/-- Every step only appends to the log, and never writes the constants (R26, R33, R57). -/
def Obligations.StepOnlyExtendsTheLog : Prop :=
  ∀ s t : State, step s = .next t → t.cfg = s.cfg ∧ (∃ l, t.tlog = s.tlog ++ l) ∧ ∃ r, t.returned = s.returned ++ r

/-- No operation other than INIT changes `SEQ` (R108): no other instruction does, no event of the block does unless INIT
is sending an entry, and no step does unless it serves a request for INIT or an INIT is in progress. -/
def Obligations.OnlyInitChangesSeq : Prop :=
  (∀ (i : Instr) (s t : State), i ≠ .init → exec i s = .next t → t.seq = s.seq) ∧
  (∀ s : State, (∀ i, s.seq ≠ .sending i) → (event s).seq = s.seq) ∧
  ∀ s t : State, Inv s → step s = .next t → (s.busy = true → s.op ≠ 2#4) →
    (∀ q rest, s.busy = false → s.port = q :: rest → decodeHost q ≠ .init) → t.seq = s.seq

/-- No operation of the block writes `PB` (R46, R27): only PB_WRITE and the host write path do. No other instruction
changes it, no event of the block does, and no step does unless it serves a PB_WRITE of the host. -/
def Obligations.OnlyHostWritesChangeThePixelBuffer : Prop :=
  (∀ (i : Instr) (s t : State), (∀ off data, i ≠ .pbWrite off data) → (∀ off data, i ≠ .hostWrite off data) →
    exec i s = .next t → t.pb = s.pb) ∧
  (∀ s : State, (event s).pb = s.pb) ∧
  ∀ s t : State, Inv s → step s = .next t →
    (∀ q rest off data, HostsTurn s → s.port = q :: rest → decodeHost q ≠ .pbWrite off data) → t.pb = s.pb

/-- Only CHKGRAY returns RangeError (R147, which the spec derives): the results any other instruction adds hold none, nor
do those an event of the block adds. -/
def Obligations.OnlyChkGrayReturnsRangeError : Prop :=
  (∀ (i : Instr) (s t : State), (∀ v, i ≠ .chkGray v) → exec i s = .next t →
    ∃ added, t.returned = s.returned ++ added ∧ .rangeError ∉ added) ∧
  ∀ s : State, ∃ added, (event s).returned = s.returned ++ added ∧ .rangeError ∉ added

/-- Cleanup (R133, R30): a step that leaves the block idle leaves no buffer, no phase and no unit behind, on every path. -/
def Obligations.NoBufferOutlivesItsOperation : Prop :=
  ∀ (i : Instr) (s t : State), Inv s → s.busy = false → (∃ q, i = decodeHost q) → exec i s = .next t →
    t.busy = false → t.wf = none ∧ t.pi = none ∧ t.issue = [] ∧ t.uph = .none

/-- Seen one event at a time, an operation does exactly what it does at once (R53, R125): from a quiet state, running the
block's events with no request of the host landing among them reaches the state that the single transition answers, but
for what is left of the schedule. The schedule and the division into events are the model's (notes/assumptions/4.md). -/
def Obligations.EventsReachTheTransactionResult : Prop :=
  ∀ (s t : State), Quiet s → HostWaits s → s.port ≠ [] → step s = .next t →
    ∃ n turns, Sys2Proof.core.run (n + 1) { s with sched := [.block] } = .next { t with sched := turns }

/-- When the host does not wait (its requests are scheduled among the events), the four operations that take several events
only begin: `BUSY` is set, the operands are latched, INIT is at entry 0 (R108) and UPDATE in U_Col (R124). The schedule
is the model's (notes/assumptions/4.md). -/
def Obligations.ScheduledOperationsBegin : Prop :=
  ∀ (s : State) (c : Byte) (p : List Byte), Admits s → s.sched ≠ [] →
    (p.length ≤ s.cfg.lMax →
      exec (.encode c p) s = .next { s with op := 0#4, busy := true, cmd := c, payload := p } ∧
      exec (.send c p) s = .next { s with op := 1#4, busy := true, cmd := c, payload := p }) ∧
    (s.cfg.initFits = true → 0 < s.cfg.nInit →
      exec .init s = .next { s with op := 2#4, busy := true, seq := .sending 0 }) ∧
    (s.seq = .ready → s.cfg.updateFits = true →
      exec .update s = .next { s with op := 3#4, busy := true, uph := .col })

/-- The phases of an UPDATE (R24, R125, R126). While units of a frame wait, the block packs the next one and stays in its
phase. With the frame packed it is handed over: an answer OK moves the phase to its successor (from U_Write to U_None, the
UPDATE over with OK); an error moves it to U_None with that error. With no frame, U_Build fills `PI` and moves to U_Write,
and the other phases obtain the frame of their send and stay; where the buffer is not obtained the phase goes to U_None
with AllocationError. Which events there are is the model's granularity (notes/assumptions/4.md). -/
def Obligations.UpdatePhasesFollowTheirOrder : Prop :=
  ∀ s : State, Inv s → s.uph ≠ .none →
    (s.issue ≠ [] → ∃ t, blockStep s = .next t ∧ t.uph = s.uph ∧ t.busy = true ∧ t.returned = s.returned) ∧
    (∀ F, s.issue = [] → s.wf = some F →
      (event s).tlog = s.tlog ++ [(F, s.transportAnswer F)] ∧
      (s.transportAnswer F = .ok → (event s).uph = s.uph.successor ∧
        (s.uph ≠ .write → (event s).busy = true ∧ (event s).returned = s.returned) ∧
        (s.uph = .write → (event s).busy = false ∧ (event s).returned = s.returned ++ [.ok])) ∧
      (∀ e, s.transportAnswer F = .error e → (event s).uph = .none ∧ (event s).busy = false ∧
        (event s).returned = s.returned ++ [.transportError e])) ∧
    (s.wf = none → (event s).tlog = s.tlog) ∧
    (s.wf = none → s.uph = .build →
      (s.allocAnswer s.cfg.piSize = true → (event s).uph = .write ∧ (event s).busy = true ∧
        (event s).pi = some s.reformatted ∧ (event s).returned = s.returned) ∧
      (s.allocAnswer s.cfg.piSize = false → (event s).uph = .none ∧ (event s).busy = false ∧
        (event s).returned = s.returned ++ [.allocationError])) ∧
    (s.wf = none → s.uph ≠ .build →
      (s.allocAnswer (phaseSend s).frame.length = true → (event s).uph = s.uph ∧ (event s).busy = true ∧
        (event s).wf = some (zeros (phaseSend s).frame.length) ∧ (event s).cmd = (phaseSend s).1 ∧
        (event s).payload = (phaseSend s).2 ∧ (event s).returned = s.returned) ∧
      (s.allocAnswer (phaseSend s).frame.length = false → (event s).uph = .none ∧ (event s).busy = false ∧
        (event s).returned = s.returned ++ [.allocationError]))
end

