-- ==== Sys2Proof/Laws/Memory.lean ====
section
/-! SUPPORT. The laws of the PixelBuffer memory: every operation keeps the canonical form; a read after a write. -/

namespace Sys2Proof.Machine.Memory

@[simp] theorem wf_nil : wf [] = true := rfl

@[simp] theorem read_nil (a : Nat) : read [] a = 0#8 := rfl

theorem wf_cons {a : Nat} {v : Byte} {m : Memory} :
    wf ((a, v) :: m) = true ↔ v ≠ 0#8 ∧ (∀ c ∈ m, a < c.1) ∧ wf m = true := by
  simp [wf, and_assoc]

/-- A listed byte is nonzero and reads back. -/
theorem read_of_lt {m : Memory} {a : Nat} (h : ∀ c ∈ m, a < c.1) : read m a = 0#8 := by
  induction m with
  | nil => rfl
  | cons c m ih =>
    obtain ⟨b, w⟩ := c
    have hb : a < b := h (b, w) (by simp)
    simp only [read]
    rw [if_neg (by omega), ih fun c hc => h c (by simp [hc])]

/-- The addresses after a write: those before, and the written one. -/
theorem mem_write {m : Memory} {a : Nat} {v : Byte} {c : Host.Cell} (h : c ∈ write m a v) :
    c ∈ m ∨ (c = (a, v) ∧ v ≠ 0#8) := by
  induction m with
  | nil => by_cases hv : v = 0 <;> simp_all [write]
  | cons d m ih =>
    obtain ⟨b, w⟩ := d
    simp only [write] at h
    split_ifs at h with h1 h2 h3 h4
    · exact .inl h
    · simp only [List.mem_cons] at h ⊢
      rcases h with rfl | h
      · exact .inr ⟨rfl, h2⟩
      · exact .inl h
    · exact .inl (by simp [h])
    · simp only [List.mem_cons] at h ⊢
      rcases h with rfl | h
      · exact .inr ⟨rfl, h4⟩
      · exact .inl (.inr h)
    · simp only [List.mem_cons] at h ⊢
      rcases h with rfl | h
      · exact .inl (.inl rfl)
      · rcases ih h with h | h
        · exact .inl (.inr h)
        · exact .inr h

theorem wf_write {m : Memory} (a : Nat) (v : Byte) (h : wf m = true) : wf (write m a v) = true := by
  induction m with
  | nil =>
    simp only [write]
    split_ifs with hv
    · rfl
    · exact wf_cons.2 ⟨hv, by simp, rfl⟩
  | cons d m ih =>
    obtain ⟨b, w⟩ := d
    obtain ⟨hw, hlt, hm⟩ := wf_cons.1 h
    simp only [write]
    split_ifs with h1 h2 h3 h4
    · exact h
    · refine wf_cons.2 ⟨h2, fun c hc => ?_, h⟩
      rcases List.mem_cons.1 hc with rfl | hc
      · exact h1
      · exact h1.trans (hlt c hc)
    · exact hm
    · subst h3
      exact wf_cons.2 ⟨h4, hlt, hm⟩
    · refine wf_cons.2 ⟨hw, fun c hc => ?_, ih hm⟩
      rcases mem_write hc with hc | ⟨rfl, -⟩
      · exact hlt c hc
      · show b < a
        omega

/-- A read after a write: the value written, and every other address as before. -/
theorem read_write {m : Memory} (a : Nat) (v : Byte) (b : Nat) (h : wf m = true) :
    read (write m a v) b = if b = a then v else read m b := by
  induction m with
  | nil =>
    simp only [write]
    split_ifs with hv hb hb <;> simp [read, *]
    exact fun hab => absurd hab.symm hb
  | cons d m ih =>
    obtain ⟨c, w⟩ := d
    obtain ⟨hw, hlt, hm⟩ := wf_cons.1 h
    have miss : read m c = 0#8 := read_of_lt hlt
    simp only [write]
    by_cases h1 : a < c
    · have miss2 : read ((c, w) :: m) a = 0#8 :=
        read_of_lt fun e he => by
          rcases List.mem_cons.1 he with rfl | he
          · exact h1
          · exact h1.trans (hlt e he)
      by_cases hv : v = 0#8
      · rw [if_pos h1, if_pos hv]
        split_ifs with hb
        · rw [hb, hv, miss2]
        · rfl
      · rw [if_pos h1, if_neg hv]
        show (if a = b then v else _) = _
        simp only [eq_comm]
    · rw [if_neg h1]
      by_cases h2 : a = c
      · subst h2
        rw [if_pos rfl]
        by_cases hv : v = 0#8
        · rw [if_pos hv]
          split_ifs with hb
          · rw [hb, hv, miss]
          · simp only [read]
            rw [if_neg (fun e => hb e.symm)]
        · rw [if_neg hv]
          simp only [read]
          by_cases hb : a = b
          · rw [if_pos hb, if_pos hb.symm]
          · rw [if_neg hb, if_neg (fun e => hb e.symm), if_neg hb]
      · rw [if_neg h2]
        simp only [read]
        by_cases hb : c = b
        · rw [if_pos hb, if_neg (by omega), if_pos hb]
        · rw [if_neg hb, if_neg hb, ih hm]

theorem wf_writeBytes (vs : List Byte) : ∀ {m : Memory} (a : Nat), wf m = true → wf (writeBytes m a vs) = true := by
  induction vs with
  | nil => exact fun _ h => h
  | cons v vs ih => exact fun a h => ih (a + 1) (wf_write a v h)

/-- A read after a write of several bytes. -/
theorem read_writeBytes (vs : List Byte) : ∀ {m : Memory} (a b : Nat), wf m = true →
    read (writeBytes m a vs) b = if a ≤ b ∧ b < a + vs.length then vs.getD (b - a) 0 else read m b := by
  induction vs with
  | nil =>
    intro m a b _
    rw [if_neg (by simp)]
    rfl
  | cons v vs ih =>
    intro m a b h
    simp only [writeBytes]
    rw [ih (a + 1) b (wf_write a v h), read_write a v b h]
    rcases Nat.lt_trichotomy b a with hb | rfl | hb
    · rw [if_neg (by omega), if_neg (by omega), if_neg (by omega)]
    · rw [if_neg (by omega), if_pos rfl, if_pos ⟨Nat.le_refl _, by simp⟩]
      simp
    · by_cases hin : b < a + 1 + vs.length
      · rw [if_pos ⟨by omega, hin⟩, if_pos ⟨by omega, by simp; omega⟩]
        obtain ⟨k, rfl⟩ : ∃ k, b = a + 1 + k := ⟨b - (a + 1), by omega⟩
        rw [show a + 1 + k - (a + 1) = k by omega, show a + 1 + k - a = k + 1 by omega, List.getD_cons_succ]
      · rw [if_neg (by omega), if_neg (by omega), if_neg (by simp; omega)]

/-- The addresses a write of several bytes lists. -/
theorem lt_of_mem_writeBytes (vs : List Byte) : ∀ {m : Memory} (a n : Nat), (∀ c ∈ m, c.1 < n) → a + vs.length ≤ n →
    ∀ c ∈ writeBytes m a vs, c.1 < n := by
  induction vs with
  | nil => exact fun a n h _ => h
  | cons v vs ih =>
    intro m a n h hn
    simp only [List.length_cons] at hn
    refine ih (a + 1) n (fun c hc => ?_) (by omega)
    rcases mem_write hc with hc | ⟨rfl, -⟩
    · exact h c hc
    · show a < n
      omega

@[simp] theorem length_readBytes (m : Memory) (a n : Nat) : (readBytes m a n).length = n := by simp [readBytes]

theorem getD_readBytes (m : Memory) (a n j : Nat) (h : j < n) : (readBytes m a n).getD j 0 = read m (a + j) := by
  simp [readBytes, List.getD, h]

end Sys2Proof.Machine.Memory
end

