-- ==== Sys2Proof/Laws/Encoder.lean ====
section
/-! SUPPORT. What packing does to a frame, bit by bit: each writer operation appends a list of bits at the cursor, and the
frame ENCODE makes holds exactly the bits of its units. -/

namespace Sys2Proof

@[simp] theorem length_zeros (n : Nat) : (zeros n).length = n := by simp [zeros]

theorem streamBit_zeros (n p : Nat) : streamBit (zeros n) p = false := by
  unfold streamBit zeros
  rw [show (List.replicate n (0 : Byte)).getD (p / 8) 0 = 0 by
    simp only [List.getD, List.getElem?_replicate]; split <;> rfl]
  simp

/-- Past a sequence's end the stream reads 0. -/
theorem streamBit_of_ge {F : List Byte} {p : Nat} (h : 8 * F.length ≤ p) : streamBit F p = false := by
  unfold streamBit
  rw [List.getD_eq_default _ _ (by omega)]
  simp

namespace Writer

@[simp] theorem writeBit_cursor (w : Writer) (b : Bool) : (w.writeBit b).cursor = w.cursor + 1 := rfl

@[simp] theorem writeBit_length (w : Writer) (b : Bool) : (w.writeBit b).buf.length = w.buf.length := by
  simp [writeBit]

/-- WRITE_BIT sets the bit at the cursor and leaves every other position alone. -/
theorem streamBit_writeBit (w : Writer) (b : Bool) (p : Nat) (h : w.cursor < 8 * w.buf.length) :
    streamBit (w.writeBit b).buf p = if p = w.cursor then (streamBit w.buf p || b) else streamBit w.buf p := by
  have hm : w.cursor / 8 < w.buf.length := by omega
  unfold streamBit writeBit
  simp only [List.getD, List.getElem?_modify]
  by_cases hq : w.cursor / 8 = p / 8
  · rw [← hq]
    simp only [List.getElem?_eq_getElem hm, Option.getD_some, if_true, Option.map_eq_map, Option.map_some]
    have hb : ((BitVec.ofBool b).setWidth 8 <<< (7 - w.cursor % 8)).getLsbD (7 - p % 8) = (decide (p = w.cursor) && b) := by
      have h1 : p % 8 < 8 := Nat.mod_lt _ (by omega)
      have h2 : w.cursor % 8 < 8 := Nat.mod_lt _ (by omega)
      simp only [BitVec.getLsbD_shiftLeft, BitVec.getLsbD_setWidth, BitVec.getLsbD_ofBool]
      by_cases hp : p = w.cursor
      · subst hp
        have : 7 - w.cursor % 8 < 8 := by omega
        simp [this]
      · have : p % 8 ≠ w.cursor % 8 := by omega
        simp only [hp, decide_false, Bool.false_and]
        by_cases hlt : 7 - p % 8 < 7 - w.cursor % 8
        · simp [hlt]
        · simp [show ¬(7 - p % 8 - (7 - w.cursor % 8) = 0) by omega]
    rw [BitVec.getLsbD_or, hb]
    by_cases hp : p = w.cursor <;> simp [hp]
  · rw [if_neg fun e => hq (by rw [e])]
    simp [hq]

/-- Appending bits at the cursor. -/
def writeBits (w : Writer) (bits : List Bool) : Writer := bits.foldl writeBit w

@[simp] theorem writeBits_nil (w : Writer) : w.writeBits [] = w := rfl

@[simp] theorem writeBits_cons (w : Writer) (b : Bool) (bits : List Bool) :
    w.writeBits (b :: bits) = (w.writeBit b).writeBits bits := rfl

theorem writeBits_append (w : Writer) (xs ys : List Bool) : w.writeBits (xs ++ ys) = (w.writeBits xs).writeBits ys :=
  List.foldl_append ..

@[simp] theorem writeBits_cursor (bits : List Bool) : ∀ w : Writer, (w.writeBits bits).cursor = w.cursor + bits.length := by
  induction bits with
  | nil => simp
  | cons b bits ih => intro w; simp [ih]; omega

@[simp] theorem writeBits_length (bits : List Bool) : ∀ w : Writer, (w.writeBits bits).buf.length = w.buf.length := by
  induction bits with
  | nil => simp
  | cons b bits ih => intro w; simp [ih]

/-- What appending bits does to every stream position. -/
theorem streamBit_writeBits (bits : List Bool) : ∀ (w : Writer) (p : Nat), w.cursor + bits.length ≤ 8 * w.buf.length →
    streamBit (w.writeBits bits).buf p =
      if w.cursor ≤ p then (streamBit w.buf p || bits.getD (p - w.cursor) false) else streamBit w.buf p := by
  induction bits with
  | nil => simp
  | cons b bits ih =>
    intro w p h
    simp only [List.length_cons] at h
    rw [writeBits_cons, ih (w.writeBit b) p (by simp; omega), streamBit_writeBit w b p (by omega), writeBit_cursor]
    rcases Nat.lt_trichotomy p w.cursor with hp | rfl | hp
    · simp [show ¬w.cursor + 1 ≤ p by omega, show ¬p = w.cursor by omega, show ¬w.cursor ≤ p by omega]
    · simp
    · obtain ⟨k, hk⟩ : ∃ k, p - w.cursor = k + 1 := ⟨p - w.cursor - 1, by omega⟩
      simp [show w.cursor + 1 ≤ p by omega, show ¬p = w.cursor by omega, show w.cursor ≤ p by omega, hk,
        show p - (w.cursor + 1) = k by omega]

end Writer

/-- A byte's bits in wire order (R81). -/
def byteBits (v : Byte) : List Bool := [7, 6, 5, 4, 3, 2, 1, 0].map v.getLsbD

/-- A unit's bits in wire order (R60). -/
def unitBitList (d : Bool) (v : Byte) : List Bool := d :: byteBits v

@[simp] theorem length_byteBits (v : Byte) : (byteBits v).length = 8 := rfl

@[simp] theorem length_unitBitList (d : Bool) (v : Byte) : (unitBitList d v).length = 9 := rfl

theorem getD_byteBits (v : Byte) (j : Nat) (h : j < 8) : (byteBits v).getD j false = v.getLsbD (7 - j) := by
  interval_cases j <;> rfl

theorem writeByte_eq (w : Writer) (v : Byte) : w.writeByte v = w.writeBits (byteBits v) := rfl

theorem writeUnit_eq (w : Writer) (d : Bool) (v : Byte) : w.writeUnit d v = w.writeBits (unitBitList d v) := rfl

@[simp] theorem writeByte_cursor (w : Writer) (v : Byte) : (w.writeByte v).cursor = w.cursor + 8 := rfl

@[simp] theorem writeUnit_cursor (w : Writer) (d : Bool) (v : Byte) : (w.writeUnit d v).cursor = w.cursor + 9 := rfl

@[simp] theorem writeByte_length (w : Writer) (v : Byte) : (w.writeByte v).buf.length = w.buf.length := by
  rw [writeByte_eq, Writer.writeBits_length]

@[simp] theorem writeUnit_length (w : Writer) (d : Bool) (v : Byte) : (w.writeUnit d v).buf.length = w.buf.length := by
  rw [writeUnit_eq, Writer.writeBits_length]

/-- The bits of the units of a command and its payload, in stream order (R62). -/
def frameBits (cmd : Byte) (payload : List Byte) : List Bool :=
  unitBitList discCmd cmd ++ payload.flatMap (unitBitList discData)

/-- The packing loop over the payload appends its units' bits. -/
theorem foldl_writeUnit (payload : List Byte) : ∀ w : Writer,
    payload.foldl (fun w v => w.writeUnit discData v) w = w.writeBits (payload.flatMap (unitBitList discData)) := by
  induction payload with
  | nil => exact fun _ => rfl
  | cons v vs ih =>
    intro w
    rw [List.foldl_cons, ih, writeUnit_eq, List.flatMap_cons, Writer.writeBits_append]

theorem encodeWriter_eq (cmd : Byte) (payload : List Byte) :
    encodeWriter cmd payload = (Writer.start payload.length).writeBits (frameBits cmd payload) := by
  rw [encodeWriter, foldl_writeUnit, writeUnit_eq, ← Writer.writeBits_append, frameBits]

theorem length_flatMap_unitBitList (payload : List Byte) :
    (payload.flatMap (unitBitList discData)).length = 9 * payload.length := by
  induction payload with
  | nil => rfl
  | cons v vs ih => simp [ih]; omega

theorem length_frameBits (cmd : Byte) (payload : List Byte) :
    (frameBits cmd payload).length = 9 * (1 + payload.length) := by
  rw [frameBits, List.length_append, length_flatMap_unitBitList, length_unitBitList]; omega

@[simp] theorem encodeWriter_cursor (cmd : Byte) (payload : List Byte) :
    (encodeWriter cmd payload).cursor = 9 * (1 + payload.length) := by
  rw [encodeWriter_eq, Writer.writeBits_cursor, length_frameBits]; simp [Writer.start]

/-- The frame's length, in the form R83 computes it. -/
theorem encodeFrame_length_eq (cmd : Byte) (payload : List Byte) :
    (encodeFrame cmd payload).length = frameLength payload.length := by
  rw [encodeFrame, encodeWriter_eq, Writer.writeBits_length]; simp [Writer.start]

/-- Every stream position of a frame: the units' bits in order, then zeros. -/
theorem streamBit_encodeFrame (cmd : Byte) (payload : List Byte) (p : Nat) :
    streamBit (encodeFrame cmd payload) p = (frameBits cmd payload).getD p false := by
  rw [encodeFrame, encodeWriter_eq, Writer.streamBit_writeBits]
  · simp [Writer.start, streamBit_zeros]
  · rw [length_frameBits]
    simp only [Writer.start, length_zeros, frameLength]
    omega

end Sys2Proof
end

