-- ==== Sys2Proof/Laws/State.lean ====
section
/-! SUPPORT. What each named update of the state does to each field: one lemma per field per update, true by rfl, so that
no later proof unfolds an update. -/

namespace Sys2Proof.Machine.State

variable (s : State)

/-! ### start -/

@[simp] theorem start_cfg (op : Selector) : (s.start op).cfg = s.cfg := rfl
@[simp] theorem start_pb (op : Selector) : (s.start op).pb = s.pb := rfl
@[simp] theorem start_seq (op : Selector) : (s.start op).seq = s.seq := rfl
@[simp] theorem start_uph (op : Selector) : (s.start op).uph = s.uph := rfl
@[simp] theorem start_busy (op : Selector) : (s.start op).busy = true := rfl
@[simp] theorem start_cmd (op : Selector) : (s.start op).cmd = s.cmd := rfl
@[simp] theorem start_payload (op : Selector) : (s.start op).payload = s.payload := rfl
@[simp] theorem start_off (op : Selector) : (s.start op).off = s.off := rfl
@[simp] theorem start_cnt (op : Selector) : (s.start op).cnt = s.cnt := rfl
@[simp] theorem start_val (op : Selector) : (s.start op).val = s.val := rfl
@[simp] theorem start_cursor (op : Selector) : (s.start op).cursor = s.cursor := rfl
@[simp] theorem start_wf (op : Selector) : (s.start op).wf = s.wf := rfl
@[simp] theorem start_pi (op : Selector) : (s.start op).pi = s.pi := rfl
@[simp] theorem start_tlog (op : Selector) : (s.start op).tlog = s.tlog := rfl
@[simp] theorem start_op (op : Selector) : (s.start op).op = op := rfl
@[simp] theorem start_issue (op : Selector) : (s.start op).issue = s.issue := rfl
@[simp] theorem start_pbOld (op : Selector) : (s.start op).pbOld = s.pbOld := rfl
@[simp] theorem start_returned (op : Selector) : (s.start op).returned = s.returned := rfl
@[simp] theorem start_port (op : Selector) : (s.start op).port = s.port := rfl
@[simp] theorem start_sched (op : Selector) : (s.start op).sched = s.sched := rfl
@[simp] theorem start_answers (op : Selector) : (s.start op).answers = s.answers := rfl
@[simp] theorem start_allocs (op : Selector) : (s.start op).allocs = s.allocs := rfl
@[simp] theorem start_draws (op : Selector) : (s.start op).draws = s.draws := rfl

/-! ### latchSend -/

@[simp] theorem latchSend_cfg (c : Byte) (p : List Byte) : (s.latchSend c p).cfg = s.cfg := rfl
@[simp] theorem latchSend_pb (c : Byte) (p : List Byte) : (s.latchSend c p).pb = s.pb := rfl
@[simp] theorem latchSend_seq (c : Byte) (p : List Byte) : (s.latchSend c p).seq = s.seq := rfl
@[simp] theorem latchSend_uph (c : Byte) (p : List Byte) : (s.latchSend c p).uph = s.uph := rfl
@[simp] theorem latchSend_busy (c : Byte) (p : List Byte) : (s.latchSend c p).busy = s.busy := rfl
@[simp] theorem latchSend_cmd (c : Byte) (p : List Byte) : (s.latchSend c p).cmd = c := rfl
@[simp] theorem latchSend_payload (c : Byte) (p : List Byte) : (s.latchSend c p).payload = p := rfl
@[simp] theorem latchSend_off (c : Byte) (p : List Byte) : (s.latchSend c p).off = s.off := rfl
@[simp] theorem latchSend_cnt (c : Byte) (p : List Byte) : (s.latchSend c p).cnt = s.cnt := rfl
@[simp] theorem latchSend_val (c : Byte) (p : List Byte) : (s.latchSend c p).val = s.val := rfl
@[simp] theorem latchSend_cursor (c : Byte) (p : List Byte) : (s.latchSend c p).cursor = s.cursor := rfl
@[simp] theorem latchSend_wf (c : Byte) (p : List Byte) : (s.latchSend c p).wf = s.wf := rfl
@[simp] theorem latchSend_pi (c : Byte) (p : List Byte) : (s.latchSend c p).pi = s.pi := rfl
@[simp] theorem latchSend_tlog (c : Byte) (p : List Byte) : (s.latchSend c p).tlog = s.tlog := rfl
@[simp] theorem latchSend_op (c : Byte) (p : List Byte) : (s.latchSend c p).op = s.op := rfl
@[simp] theorem latchSend_issue (c : Byte) (p : List Byte) : (s.latchSend c p).issue = s.issue := rfl
@[simp] theorem latchSend_pbOld (c : Byte) (p : List Byte) : (s.latchSend c p).pbOld = s.pbOld := rfl
@[simp] theorem latchSend_returned (c : Byte) (p : List Byte) : (s.latchSend c p).returned = s.returned := rfl
@[simp] theorem latchSend_port (c : Byte) (p : List Byte) : (s.latchSend c p).port = s.port := rfl
@[simp] theorem latchSend_sched (c : Byte) (p : List Byte) : (s.latchSend c p).sched = s.sched := rfl
@[simp] theorem latchSend_answers (c : Byte) (p : List Byte) : (s.latchSend c p).answers = s.answers := rfl
@[simp] theorem latchSend_allocs (c : Byte) (p : List Byte) : (s.latchSend c p).allocs = s.allocs := rfl
@[simp] theorem latchSend_draws (c : Byte) (p : List Byte) : (s.latchSend c p).draws = s.draws := rfl

/-! ### latchPort -/

@[simp] theorem latchPort_cfg (o n : Nat) : (s.latchPort o n).cfg = s.cfg := rfl
@[simp] theorem latchPort_pb (o n : Nat) : (s.latchPort o n).pb = s.pb := rfl
@[simp] theorem latchPort_seq (o n : Nat) : (s.latchPort o n).seq = s.seq := rfl
@[simp] theorem latchPort_uph (o n : Nat) : (s.latchPort o n).uph = s.uph := rfl
@[simp] theorem latchPort_busy (o n : Nat) : (s.latchPort o n).busy = s.busy := rfl
@[simp] theorem latchPort_cmd (o n : Nat) : (s.latchPort o n).cmd = s.cmd := rfl
@[simp] theorem latchPort_payload (o n : Nat) : (s.latchPort o n).payload = s.payload := rfl
@[simp] theorem latchPort_off (o n : Nat) : (s.latchPort o n).off = o := rfl
@[simp] theorem latchPort_cnt (o n : Nat) : (s.latchPort o n).cnt = n := rfl
@[simp] theorem latchPort_val (o n : Nat) : (s.latchPort o n).val = s.val := rfl
@[simp] theorem latchPort_cursor (o n : Nat) : (s.latchPort o n).cursor = s.cursor := rfl
@[simp] theorem latchPort_wf (o n : Nat) : (s.latchPort o n).wf = s.wf := rfl
@[simp] theorem latchPort_pi (o n : Nat) : (s.latchPort o n).pi = s.pi := rfl
@[simp] theorem latchPort_tlog (o n : Nat) : (s.latchPort o n).tlog = s.tlog := rfl
@[simp] theorem latchPort_op (o n : Nat) : (s.latchPort o n).op = s.op := rfl
@[simp] theorem latchPort_issue (o n : Nat) : (s.latchPort o n).issue = s.issue := rfl
@[simp] theorem latchPort_pbOld (o n : Nat) : (s.latchPort o n).pbOld = s.pbOld := rfl
@[simp] theorem latchPort_returned (o n : Nat) : (s.latchPort o n).returned = s.returned := rfl
@[simp] theorem latchPort_port (o n : Nat) : (s.latchPort o n).port = s.port := rfl
@[simp] theorem latchPort_sched (o n : Nat) : (s.latchPort o n).sched = s.sched := rfl
@[simp] theorem latchPort_answers (o n : Nat) : (s.latchPort o n).answers = s.answers := rfl
@[simp] theorem latchPort_allocs (o n : Nat) : (s.latchPort o n).allocs = s.allocs := rfl
@[simp] theorem latchPort_draws (o n : Nat) : (s.latchPort o n).draws = s.draws := rfl

/-! ### latchVal -/

@[simp] theorem latchVal_cfg (v : Nat) : (s.latchVal v).cfg = s.cfg := rfl
@[simp] theorem latchVal_pb (v : Nat) : (s.latchVal v).pb = s.pb := rfl
@[simp] theorem latchVal_seq (v : Nat) : (s.latchVal v).seq = s.seq := rfl
@[simp] theorem latchVal_uph (v : Nat) : (s.latchVal v).uph = s.uph := rfl
@[simp] theorem latchVal_busy (v : Nat) : (s.latchVal v).busy = s.busy := rfl
@[simp] theorem latchVal_cmd (v : Nat) : (s.latchVal v).cmd = s.cmd := rfl
@[simp] theorem latchVal_payload (v : Nat) : (s.latchVal v).payload = s.payload := rfl
@[simp] theorem latchVal_off (v : Nat) : (s.latchVal v).off = s.off := rfl
@[simp] theorem latchVal_cnt (v : Nat) : (s.latchVal v).cnt = s.cnt := rfl
@[simp] theorem latchVal_val (v : Nat) : (s.latchVal v).val = v := rfl
@[simp] theorem latchVal_cursor (v : Nat) : (s.latchVal v).cursor = s.cursor := rfl
@[simp] theorem latchVal_wf (v : Nat) : (s.latchVal v).wf = s.wf := rfl
@[simp] theorem latchVal_pi (v : Nat) : (s.latchVal v).pi = s.pi := rfl
@[simp] theorem latchVal_tlog (v : Nat) : (s.latchVal v).tlog = s.tlog := rfl
@[simp] theorem latchVal_op (v : Nat) : (s.latchVal v).op = s.op := rfl
@[simp] theorem latchVal_issue (v : Nat) : (s.latchVal v).issue = s.issue := rfl
@[simp] theorem latchVal_pbOld (v : Nat) : (s.latchVal v).pbOld = s.pbOld := rfl
@[simp] theorem latchVal_returned (v : Nat) : (s.latchVal v).returned = s.returned := rfl
@[simp] theorem latchVal_port (v : Nat) : (s.latchVal v).port = s.port := rfl
@[simp] theorem latchVal_sched (v : Nat) : (s.latchVal v).sched = s.sched := rfl
@[simp] theorem latchVal_answers (v : Nat) : (s.latchVal v).answers = s.answers := rfl
@[simp] theorem latchVal_allocs (v : Nat) : (s.latchVal v).allocs = s.allocs := rfl
@[simp] theorem latchVal_draws (v : Nat) : (s.latchVal v).draws = s.draws := rfl

/-! ### setPb -/

@[simp] theorem setPb_cfg (m : Memory) : (s.setPb m).cfg = s.cfg := rfl
@[simp] theorem setPb_pb (m : Memory) : (s.setPb m).pb = m := rfl
@[simp] theorem setPb_seq (m : Memory) : (s.setPb m).seq = s.seq := rfl
@[simp] theorem setPb_uph (m : Memory) : (s.setPb m).uph = s.uph := rfl
@[simp] theorem setPb_busy (m : Memory) : (s.setPb m).busy = s.busy := rfl
@[simp] theorem setPb_cmd (m : Memory) : (s.setPb m).cmd = s.cmd := rfl
@[simp] theorem setPb_payload (m : Memory) : (s.setPb m).payload = s.payload := rfl
@[simp] theorem setPb_off (m : Memory) : (s.setPb m).off = s.off := rfl
@[simp] theorem setPb_cnt (m : Memory) : (s.setPb m).cnt = s.cnt := rfl
@[simp] theorem setPb_val (m : Memory) : (s.setPb m).val = s.val := rfl
@[simp] theorem setPb_cursor (m : Memory) : (s.setPb m).cursor = s.cursor := rfl
@[simp] theorem setPb_wf (m : Memory) : (s.setPb m).wf = s.wf := rfl
@[simp] theorem setPb_pi (m : Memory) : (s.setPb m).pi = s.pi := rfl
@[simp] theorem setPb_tlog (m : Memory) : (s.setPb m).tlog = s.tlog := rfl
@[simp] theorem setPb_op (m : Memory) : (s.setPb m).op = s.op := rfl
@[simp] theorem setPb_issue (m : Memory) : (s.setPb m).issue = s.issue := rfl
@[simp] theorem setPb_pbOld (m : Memory) : (s.setPb m).pbOld = s.pbOld := rfl
@[simp] theorem setPb_returned (m : Memory) : (s.setPb m).returned = s.returned := rfl
@[simp] theorem setPb_port (m : Memory) : (s.setPb m).port = s.port := rfl
@[simp] theorem setPb_sched (m : Memory) : (s.setPb m).sched = s.sched := rfl
@[simp] theorem setPb_answers (m : Memory) : (s.setPb m).answers = s.answers := rfl
@[simp] theorem setPb_allocs (m : Memory) : (s.setPb m).allocs = s.allocs := rfl
@[simp] theorem setPb_draws (m : Memory) : (s.setPb m).draws = s.draws := rfl

/-! ### setSeq -/

@[simp] theorem setSeq_cfg (q : Seq) : (s.setSeq q).cfg = s.cfg := rfl
@[simp] theorem setSeq_pb (q : Seq) : (s.setSeq q).pb = s.pb := rfl
@[simp] theorem setSeq_seq (q : Seq) : (s.setSeq q).seq = q := rfl
@[simp] theorem setSeq_uph (q : Seq) : (s.setSeq q).uph = s.uph := rfl
@[simp] theorem setSeq_busy (q : Seq) : (s.setSeq q).busy = s.busy := rfl
@[simp] theorem setSeq_cmd (q : Seq) : (s.setSeq q).cmd = s.cmd := rfl
@[simp] theorem setSeq_payload (q : Seq) : (s.setSeq q).payload = s.payload := rfl
@[simp] theorem setSeq_off (q : Seq) : (s.setSeq q).off = s.off := rfl
@[simp] theorem setSeq_cnt (q : Seq) : (s.setSeq q).cnt = s.cnt := rfl
@[simp] theorem setSeq_val (q : Seq) : (s.setSeq q).val = s.val := rfl
@[simp] theorem setSeq_cursor (q : Seq) : (s.setSeq q).cursor = s.cursor := rfl
@[simp] theorem setSeq_wf (q : Seq) : (s.setSeq q).wf = s.wf := rfl
@[simp] theorem setSeq_pi (q : Seq) : (s.setSeq q).pi = s.pi := rfl
@[simp] theorem setSeq_tlog (q : Seq) : (s.setSeq q).tlog = s.tlog := rfl
@[simp] theorem setSeq_op (q : Seq) : (s.setSeq q).op = s.op := rfl
@[simp] theorem setSeq_issue (q : Seq) : (s.setSeq q).issue = s.issue := rfl
@[simp] theorem setSeq_pbOld (q : Seq) : (s.setSeq q).pbOld = s.pbOld := rfl
@[simp] theorem setSeq_returned (q : Seq) : (s.setSeq q).returned = s.returned := rfl
@[simp] theorem setSeq_port (q : Seq) : (s.setSeq q).port = s.port := rfl
@[simp] theorem setSeq_sched (q : Seq) : (s.setSeq q).sched = s.sched := rfl
@[simp] theorem setSeq_answers (q : Seq) : (s.setSeq q).answers = s.answers := rfl
@[simp] theorem setSeq_allocs (q : Seq) : (s.setSeq q).allocs = s.allocs := rfl
@[simp] theorem setSeq_draws (q : Seq) : (s.setSeq q).draws = s.draws := rfl

/-! ### setPhase -/

@[simp] theorem setPhase_cfg (u : Phase) : (s.setPhase u).cfg = s.cfg := rfl
@[simp] theorem setPhase_pb (u : Phase) : (s.setPhase u).pb = s.pb := rfl
@[simp] theorem setPhase_seq (u : Phase) : (s.setPhase u).seq = s.seq := rfl
@[simp] theorem setPhase_uph (u : Phase) : (s.setPhase u).uph = u := rfl
@[simp] theorem setPhase_busy (u : Phase) : (s.setPhase u).busy = s.busy := rfl
@[simp] theorem setPhase_cmd (u : Phase) : (s.setPhase u).cmd = s.cmd := rfl
@[simp] theorem setPhase_payload (u : Phase) : (s.setPhase u).payload = s.payload := rfl
@[simp] theorem setPhase_off (u : Phase) : (s.setPhase u).off = s.off := rfl
@[simp] theorem setPhase_cnt (u : Phase) : (s.setPhase u).cnt = s.cnt := rfl
@[simp] theorem setPhase_val (u : Phase) : (s.setPhase u).val = s.val := rfl
@[simp] theorem setPhase_cursor (u : Phase) : (s.setPhase u).cursor = s.cursor := rfl
@[simp] theorem setPhase_wf (u : Phase) : (s.setPhase u).wf = s.wf := rfl
@[simp] theorem setPhase_pi (u : Phase) : (s.setPhase u).pi = s.pi := rfl
@[simp] theorem setPhase_tlog (u : Phase) : (s.setPhase u).tlog = s.tlog := rfl
@[simp] theorem setPhase_op (u : Phase) : (s.setPhase u).op = s.op := rfl
@[simp] theorem setPhase_issue (u : Phase) : (s.setPhase u).issue = s.issue := rfl
@[simp] theorem setPhase_pbOld (u : Phase) : (s.setPhase u).pbOld = s.pbOld := rfl
@[simp] theorem setPhase_returned (u : Phase) : (s.setPhase u).returned = s.returned := rfl
@[simp] theorem setPhase_port (u : Phase) : (s.setPhase u).port = s.port := rfl
@[simp] theorem setPhase_sched (u : Phase) : (s.setPhase u).sched = s.sched := rfl
@[simp] theorem setPhase_answers (u : Phase) : (s.setPhase u).answers = s.answers := rfl
@[simp] theorem setPhase_allocs (u : Phase) : (s.setPhase u).allocs = s.allocs := rfl
@[simp] theorem setPhase_draws (u : Phase) : (s.setPhase u).draws = s.draws := rfl

/-! ### putWriter -/

@[simp] theorem putWriter_cfg (w : Writer) : (s.putWriter w).cfg = s.cfg := rfl
@[simp] theorem putWriter_pb (w : Writer) : (s.putWriter w).pb = s.pb := rfl
@[simp] theorem putWriter_seq (w : Writer) : (s.putWriter w).seq = s.seq := rfl
@[simp] theorem putWriter_uph (w : Writer) : (s.putWriter w).uph = s.uph := rfl
@[simp] theorem putWriter_busy (w : Writer) : (s.putWriter w).busy = s.busy := rfl
@[simp] theorem putWriter_cmd (w : Writer) : (s.putWriter w).cmd = s.cmd := rfl
@[simp] theorem putWriter_payload (w : Writer) : (s.putWriter w).payload = s.payload := rfl
@[simp] theorem putWriter_off (w : Writer) : (s.putWriter w).off = s.off := rfl
@[simp] theorem putWriter_cnt (w : Writer) : (s.putWriter w).cnt = s.cnt := rfl
@[simp] theorem putWriter_val (w : Writer) : (s.putWriter w).val = s.val := rfl
@[simp] theorem putWriter_cursor (w : Writer) : (s.putWriter w).cursor = w.cursor := rfl
@[simp] theorem putWriter_wf (w : Writer) : (s.putWriter w).wf = some w.buf := rfl
@[simp] theorem putWriter_pi (w : Writer) : (s.putWriter w).pi = s.pi := rfl
@[simp] theorem putWriter_tlog (w : Writer) : (s.putWriter w).tlog = s.tlog := rfl
@[simp] theorem putWriter_op (w : Writer) : (s.putWriter w).op = s.op := rfl
@[simp] theorem putWriter_issue (w : Writer) : (s.putWriter w).issue = s.issue := rfl
@[simp] theorem putWriter_pbOld (w : Writer) : (s.putWriter w).pbOld = s.pbOld := rfl
@[simp] theorem putWriter_returned (w : Writer) : (s.putWriter w).returned = s.returned := rfl
@[simp] theorem putWriter_port (w : Writer) : (s.putWriter w).port = s.port := rfl
@[simp] theorem putWriter_sched (w : Writer) : (s.putWriter w).sched = s.sched := rfl
@[simp] theorem putWriter_answers (w : Writer) : (s.putWriter w).answers = s.answers := rfl
@[simp] theorem putWriter_allocs (w : Writer) : (s.putWriter w).allocs = s.allocs := rfl
@[simp] theorem putWriter_draws (w : Writer) : (s.putWriter w).draws = s.draws := rfl

/-! ### setIssue -/

@[simp] theorem setIssue_cfg (l : List Instr) : (s.setIssue l).cfg = s.cfg := rfl
@[simp] theorem setIssue_pb (l : List Instr) : (s.setIssue l).pb = s.pb := rfl
@[simp] theorem setIssue_seq (l : List Instr) : (s.setIssue l).seq = s.seq := rfl
@[simp] theorem setIssue_uph (l : List Instr) : (s.setIssue l).uph = s.uph := rfl
@[simp] theorem setIssue_busy (l : List Instr) : (s.setIssue l).busy = s.busy := rfl
@[simp] theorem setIssue_cmd (l : List Instr) : (s.setIssue l).cmd = s.cmd := rfl
@[simp] theorem setIssue_payload (l : List Instr) : (s.setIssue l).payload = s.payload := rfl
@[simp] theorem setIssue_off (l : List Instr) : (s.setIssue l).off = s.off := rfl
@[simp] theorem setIssue_cnt (l : List Instr) : (s.setIssue l).cnt = s.cnt := rfl
@[simp] theorem setIssue_val (l : List Instr) : (s.setIssue l).val = s.val := rfl
@[simp] theorem setIssue_cursor (l : List Instr) : (s.setIssue l).cursor = s.cursor := rfl
@[simp] theorem setIssue_wf (l : List Instr) : (s.setIssue l).wf = s.wf := rfl
@[simp] theorem setIssue_pi (l : List Instr) : (s.setIssue l).pi = s.pi := rfl
@[simp] theorem setIssue_tlog (l : List Instr) : (s.setIssue l).tlog = s.tlog := rfl
@[simp] theorem setIssue_op (l : List Instr) : (s.setIssue l).op = s.op := rfl
@[simp] theorem setIssue_issue (l : List Instr) : (s.setIssue l).issue = l := rfl
@[simp] theorem setIssue_pbOld (l : List Instr) : (s.setIssue l).pbOld = s.pbOld := rfl
@[simp] theorem setIssue_returned (l : List Instr) : (s.setIssue l).returned = s.returned := rfl
@[simp] theorem setIssue_port (l : List Instr) : (s.setIssue l).port = s.port := rfl
@[simp] theorem setIssue_sched (l : List Instr) : (s.setIssue l).sched = s.sched := rfl
@[simp] theorem setIssue_answers (l : List Instr) : (s.setIssue l).answers = s.answers := rfl
@[simp] theorem setIssue_allocs (l : List Instr) : (s.setIssue l).allocs = s.allocs := rfl
@[simp] theorem setIssue_draws (l : List Instr) : (s.setIssue l).draws = s.draws := rfl

/-! ### releaseFrame -/

@[simp] theorem releaseFrame_cfg : s.releaseFrame.cfg = s.cfg := rfl
@[simp] theorem releaseFrame_pb : s.releaseFrame.pb = s.pb := rfl
@[simp] theorem releaseFrame_seq : s.releaseFrame.seq = s.seq := rfl
@[simp] theorem releaseFrame_uph : s.releaseFrame.uph = s.uph := rfl
@[simp] theorem releaseFrame_busy : s.releaseFrame.busy = s.busy := rfl
@[simp] theorem releaseFrame_cmd : s.releaseFrame.cmd = s.cmd := rfl
@[simp] theorem releaseFrame_payload : s.releaseFrame.payload = s.payload := rfl
@[simp] theorem releaseFrame_off : s.releaseFrame.off = s.off := rfl
@[simp] theorem releaseFrame_cnt : s.releaseFrame.cnt = s.cnt := rfl
@[simp] theorem releaseFrame_val : s.releaseFrame.val = s.val := rfl
@[simp] theorem releaseFrame_cursor : s.releaseFrame.cursor = s.cursor := rfl
@[simp] theorem releaseFrame_wf : s.releaseFrame.wf = none := rfl
@[simp] theorem releaseFrame_pi : s.releaseFrame.pi = s.pi := rfl
@[simp] theorem releaseFrame_tlog : s.releaseFrame.tlog = s.tlog := rfl
@[simp] theorem releaseFrame_op : s.releaseFrame.op = s.op := rfl
@[simp] theorem releaseFrame_issue : s.releaseFrame.issue = [] := rfl
@[simp] theorem releaseFrame_pbOld : s.releaseFrame.pbOld = s.pbOld := rfl
@[simp] theorem releaseFrame_returned : s.releaseFrame.returned = s.returned := rfl
@[simp] theorem releaseFrame_port : s.releaseFrame.port = s.port := rfl
@[simp] theorem releaseFrame_sched : s.releaseFrame.sched = s.sched := rfl
@[simp] theorem releaseFrame_answers : s.releaseFrame.answers = s.answers := rfl
@[simp] theorem releaseFrame_allocs : s.releaseFrame.allocs = s.allocs := rfl
@[simp] theorem releaseFrame_draws : s.releaseFrame.draws = s.draws := rfl

/-! ### putImage -/

@[simp] theorem putImage_cfg (b : List Byte) : (s.putImage b).cfg = s.cfg := rfl
@[simp] theorem putImage_pb (b : List Byte) : (s.putImage b).pb = s.pb := rfl
@[simp] theorem putImage_seq (b : List Byte) : (s.putImage b).seq = s.seq := rfl
@[simp] theorem putImage_uph (b : List Byte) : (s.putImage b).uph = s.uph := rfl
@[simp] theorem putImage_busy (b : List Byte) : (s.putImage b).busy = s.busy := rfl
@[simp] theorem putImage_cmd (b : List Byte) : (s.putImage b).cmd = s.cmd := rfl
@[simp] theorem putImage_payload (b : List Byte) : (s.putImage b).payload = s.payload := rfl
@[simp] theorem putImage_off (b : List Byte) : (s.putImage b).off = s.off := rfl
@[simp] theorem putImage_cnt (b : List Byte) : (s.putImage b).cnt = s.cnt := rfl
@[simp] theorem putImage_val (b : List Byte) : (s.putImage b).val = s.val := rfl
@[simp] theorem putImage_cursor (b : List Byte) : (s.putImage b).cursor = s.cursor := rfl
@[simp] theorem putImage_wf (b : List Byte) : (s.putImage b).wf = s.wf := rfl
@[simp] theorem putImage_pi (b : List Byte) : (s.putImage b).pi = some b := rfl
@[simp] theorem putImage_tlog (b : List Byte) : (s.putImage b).tlog = s.tlog := rfl
@[simp] theorem putImage_op (b : List Byte) : (s.putImage b).op = s.op := rfl
@[simp] theorem putImage_issue (b : List Byte) : (s.putImage b).issue = s.issue := rfl
@[simp] theorem putImage_pbOld (b : List Byte) : (s.putImage b).pbOld = [] := rfl
@[simp] theorem putImage_returned (b : List Byte) : (s.putImage b).returned = s.returned := rfl
@[simp] theorem putImage_port (b : List Byte) : (s.putImage b).port = s.port := rfl
@[simp] theorem putImage_sched (b : List Byte) : (s.putImage b).sched = s.sched := rfl
@[simp] theorem putImage_answers (b : List Byte) : (s.putImage b).answers = s.answers := rfl
@[simp] theorem putImage_allocs (b : List Byte) : (s.putImage b).allocs = s.allocs := rfl
@[simp] theorem putImage_draws (b : List Byte) : (s.putImage b).draws = s.draws := rfl

/-! ### releaseImage -/

@[simp] theorem releaseImage_cfg : s.releaseImage.cfg = s.cfg := rfl
@[simp] theorem releaseImage_pb : s.releaseImage.pb = s.pb := rfl
@[simp] theorem releaseImage_seq : s.releaseImage.seq = s.seq := rfl
@[simp] theorem releaseImage_uph : s.releaseImage.uph = s.uph := rfl
@[simp] theorem releaseImage_busy : s.releaseImage.busy = s.busy := rfl
@[simp] theorem releaseImage_cmd : s.releaseImage.cmd = s.cmd := rfl
@[simp] theorem releaseImage_payload : s.releaseImage.payload = s.payload := rfl
@[simp] theorem releaseImage_off : s.releaseImage.off = s.off := rfl
@[simp] theorem releaseImage_cnt : s.releaseImage.cnt = s.cnt := rfl
@[simp] theorem releaseImage_val : s.releaseImage.val = s.val := rfl
@[simp] theorem releaseImage_cursor : s.releaseImage.cursor = s.cursor := rfl
@[simp] theorem releaseImage_wf : s.releaseImage.wf = s.wf := rfl
@[simp] theorem releaseImage_pi : s.releaseImage.pi = none := rfl
@[simp] theorem releaseImage_tlog : s.releaseImage.tlog = s.tlog := rfl
@[simp] theorem releaseImage_op : s.releaseImage.op = s.op := rfl
@[simp] theorem releaseImage_issue : s.releaseImage.issue = s.issue := rfl
@[simp] theorem releaseImage_pbOld : s.releaseImage.pbOld = [] := rfl
@[simp] theorem releaseImage_returned : s.releaseImage.returned = s.returned := rfl
@[simp] theorem releaseImage_port : s.releaseImage.port = s.port := rfl
@[simp] theorem releaseImage_sched : s.releaseImage.sched = s.sched := rfl
@[simp] theorem releaseImage_answers : s.releaseImage.answers = s.answers := rfl
@[simp] theorem releaseImage_allocs : s.releaseImage.allocs = s.allocs := rfl
@[simp] theorem releaseImage_draws : s.releaseImage.draws = s.draws := rfl

/-! ### rememberPb -/

@[simp] theorem rememberPb_cfg : s.rememberPb.cfg = s.cfg := rfl
@[simp] theorem rememberPb_pb : s.rememberPb.pb = s.pb := rfl
@[simp] theorem rememberPb_seq : s.rememberPb.seq = s.seq := rfl
@[simp] theorem rememberPb_uph : s.rememberPb.uph = s.uph := rfl
@[simp] theorem rememberPb_busy : s.rememberPb.busy = s.busy := rfl
@[simp] theorem rememberPb_cmd : s.rememberPb.cmd = s.cmd := rfl
@[simp] theorem rememberPb_payload : s.rememberPb.payload = s.payload := rfl
@[simp] theorem rememberPb_off : s.rememberPb.off = s.off := rfl
@[simp] theorem rememberPb_cnt : s.rememberPb.cnt = s.cnt := rfl
@[simp] theorem rememberPb_val : s.rememberPb.val = s.val := rfl
@[simp] theorem rememberPb_cursor : s.rememberPb.cursor = s.cursor := rfl
@[simp] theorem rememberPb_wf : s.rememberPb.wf = s.wf := rfl
@[simp] theorem rememberPb_pi : s.rememberPb.pi = s.pi := rfl
@[simp] theorem rememberPb_tlog : s.rememberPb.tlog = s.tlog := rfl
@[simp] theorem rememberPb_op : s.rememberPb.op = s.op := rfl
@[simp] theorem rememberPb_issue : s.rememberPb.issue = s.issue := rfl
@[simp] theorem rememberPb_pbOld : s.rememberPb.pbOld = s.pb :: s.pbOld := rfl
@[simp] theorem rememberPb_returned : s.rememberPb.returned = s.returned := rfl
@[simp] theorem rememberPb_port : s.rememberPb.port = s.port := rfl
@[simp] theorem rememberPb_sched : s.rememberPb.sched = s.sched := rfl
@[simp] theorem rememberPb_answers : s.rememberPb.answers = s.answers := rfl
@[simp] theorem rememberPb_allocs : s.rememberPb.allocs = s.allocs := rfl
@[simp] theorem rememberPb_draws : s.rememberPb.draws = s.draws := rfl

/-! ### deliver -/

@[simp] theorem deliver_cfg (r : Result) : (s.deliver r).cfg = s.cfg := rfl
@[simp] theorem deliver_pb (r : Result) : (s.deliver r).pb = s.pb := rfl
@[simp] theorem deliver_seq (r : Result) : (s.deliver r).seq = s.seq := rfl
@[simp] theorem deliver_uph (r : Result) : (s.deliver r).uph = s.uph := rfl
@[simp] theorem deliver_busy (r : Result) : (s.deliver r).busy = s.busy := rfl
@[simp] theorem deliver_cmd (r : Result) : (s.deliver r).cmd = s.cmd := rfl
@[simp] theorem deliver_payload (r : Result) : (s.deliver r).payload = s.payload := rfl
@[simp] theorem deliver_off (r : Result) : (s.deliver r).off = s.off := rfl
@[simp] theorem deliver_cnt (r : Result) : (s.deliver r).cnt = s.cnt := rfl
@[simp] theorem deliver_val (r : Result) : (s.deliver r).val = s.val := rfl
@[simp] theorem deliver_cursor (r : Result) : (s.deliver r).cursor = s.cursor := rfl
@[simp] theorem deliver_wf (r : Result) : (s.deliver r).wf = s.wf := rfl
@[simp] theorem deliver_pi (r : Result) : (s.deliver r).pi = s.pi := rfl
@[simp] theorem deliver_tlog (r : Result) : (s.deliver r).tlog = s.tlog := rfl
@[simp] theorem deliver_op (r : Result) : (s.deliver r).op = s.op := rfl
@[simp] theorem deliver_issue (r : Result) : (s.deliver r).issue = s.issue := rfl
@[simp] theorem deliver_pbOld (r : Result) : (s.deliver r).pbOld = s.pbOld := rfl
@[simp] theorem deliver_returned (r : Result) : (s.deliver r).returned = s.returned ++ [r] := rfl
@[simp] theorem deliver_port (r : Result) : (s.deliver r).port = s.port := rfl
@[simp] theorem deliver_sched (r : Result) : (s.deliver r).sched = s.sched := rfl
@[simp] theorem deliver_answers (r : Result) : (s.deliver r).answers = s.answers := rfl
@[simp] theorem deliver_allocs (r : Result) : (s.deliver r).allocs = s.allocs := rfl
@[simp] theorem deliver_draws (r : Result) : (s.deliver r).draws = s.draws := rfl

/-! ### finish -/

@[simp] theorem finish_cfg (r : Result) : (s.finish r).cfg = s.cfg := rfl
@[simp] theorem finish_pb (r : Result) : (s.finish r).pb = s.pb := rfl
@[simp] theorem finish_seq (r : Result) : (s.finish r).seq = s.seq := rfl
@[simp] theorem finish_uph (r : Result) : (s.finish r).uph = s.uph := rfl
@[simp] theorem finish_busy (r : Result) : (s.finish r).busy = false := rfl
@[simp] theorem finish_cmd (r : Result) : (s.finish r).cmd = s.cmd := rfl
@[simp] theorem finish_payload (r : Result) : (s.finish r).payload = s.payload := rfl
@[simp] theorem finish_off (r : Result) : (s.finish r).off = s.off := rfl
@[simp] theorem finish_cnt (r : Result) : (s.finish r).cnt = s.cnt := rfl
@[simp] theorem finish_val (r : Result) : (s.finish r).val = s.val := rfl
@[simp] theorem finish_cursor (r : Result) : (s.finish r).cursor = s.cursor := rfl
@[simp] theorem finish_wf (r : Result) : (s.finish r).wf = s.wf := rfl
@[simp] theorem finish_pi (r : Result) : (s.finish r).pi = s.pi := rfl
@[simp] theorem finish_tlog (r : Result) : (s.finish r).tlog = s.tlog := rfl
@[simp] theorem finish_op (r : Result) : (s.finish r).op = s.op := rfl
@[simp] theorem finish_issue (r : Result) : (s.finish r).issue = s.issue := rfl
@[simp] theorem finish_pbOld (r : Result) : (s.finish r).pbOld = s.pbOld := rfl
@[simp] theorem finish_returned (r : Result) : (s.finish r).returned = s.returned ++ [r] := rfl
@[simp] theorem finish_port (r : Result) : (s.finish r).port = s.port := rfl
@[simp] theorem finish_sched (r : Result) : (s.finish r).sched = s.sched := rfl
@[simp] theorem finish_answers (r : Result) : (s.finish r).answers = s.answers := rfl
@[simp] theorem finish_allocs (r : Result) : (s.finish r).allocs = s.allocs := rfl
@[simp] theorem finish_draws (r : Result) : (s.finish r).draws = s.draws := rfl

/-! ### raise -/

@[simp] theorem raise_cfg (r : Result) : (s.raise r).cfg = s.cfg := rfl
@[simp] theorem raise_pb (r : Result) : (s.raise r).pb = s.pb := rfl
@[simp] theorem raise_seq (r : Result) : (s.raise r).seq = match s.seq with | .sending _ => .failed | q => q := rfl
@[simp] theorem raise_uph (r : Result) : (s.raise r).uph = .none := rfl
@[simp] theorem raise_busy (r : Result) : (s.raise r).busy = false := rfl
@[simp] theorem raise_cmd (r : Result) : (s.raise r).cmd = s.cmd := rfl
@[simp] theorem raise_payload (r : Result) : (s.raise r).payload = s.payload := rfl
@[simp] theorem raise_off (r : Result) : (s.raise r).off = s.off := rfl
@[simp] theorem raise_cnt (r : Result) : (s.raise r).cnt = s.cnt := rfl
@[simp] theorem raise_val (r : Result) : (s.raise r).val = s.val := rfl
@[simp] theorem raise_cursor (r : Result) : (s.raise r).cursor = s.cursor := rfl
@[simp] theorem raise_wf (r : Result) : (s.raise r).wf = none := rfl
@[simp] theorem raise_pi (r : Result) : (s.raise r).pi = none := rfl
@[simp] theorem raise_tlog (r : Result) : (s.raise r).tlog = s.tlog := rfl
@[simp] theorem raise_op (r : Result) : (s.raise r).op = s.op := rfl
@[simp] theorem raise_issue (r : Result) : (s.raise r).issue = [] := rfl
@[simp] theorem raise_pbOld (r : Result) : (s.raise r).pbOld = [] := rfl
@[simp] theorem raise_returned (r : Result) : (s.raise r).returned = s.returned ++ [r] := rfl
@[simp] theorem raise_port (r : Result) : (s.raise r).port = s.port := rfl
@[simp] theorem raise_sched (r : Result) : (s.raise r).sched = s.sched := rfl
@[simp] theorem raise_answers (r : Result) : (s.raise r).answers = s.answers := rfl
@[simp] theorem raise_allocs (r : Result) : (s.raise r).allocs = s.allocs := rfl
@[simp] theorem raise_draws (r : Result) : (s.raise r).draws = s.draws := rfl

/-! ### afterAlloc -/

@[simp] theorem afterAlloc_cfg : s.afterAlloc.cfg = s.cfg := rfl
@[simp] theorem afterAlloc_pb : s.afterAlloc.pb = s.pb := rfl
@[simp] theorem afterAlloc_seq : s.afterAlloc.seq = s.seq := rfl
@[simp] theorem afterAlloc_uph : s.afterAlloc.uph = s.uph := rfl
@[simp] theorem afterAlloc_busy : s.afterAlloc.busy = s.busy := rfl
@[simp] theorem afterAlloc_cmd : s.afterAlloc.cmd = s.cmd := rfl
@[simp] theorem afterAlloc_payload : s.afterAlloc.payload = s.payload := rfl
@[simp] theorem afterAlloc_off : s.afterAlloc.off = s.off := rfl
@[simp] theorem afterAlloc_cnt : s.afterAlloc.cnt = s.cnt := rfl
@[simp] theorem afterAlloc_val : s.afterAlloc.val = s.val := rfl
@[simp] theorem afterAlloc_cursor : s.afterAlloc.cursor = s.cursor := rfl
@[simp] theorem afterAlloc_wf : s.afterAlloc.wf = s.wf := rfl
@[simp] theorem afterAlloc_pi : s.afterAlloc.pi = s.pi := rfl
@[simp] theorem afterAlloc_tlog : s.afterAlloc.tlog = s.tlog := rfl
@[simp] theorem afterAlloc_op : s.afterAlloc.op = s.op := rfl
@[simp] theorem afterAlloc_issue : s.afterAlloc.issue = s.issue := rfl
@[simp] theorem afterAlloc_pbOld : s.afterAlloc.pbOld = s.pbOld := rfl
@[simp] theorem afterAlloc_returned : s.afterAlloc.returned = s.returned := rfl
@[simp] theorem afterAlloc_port : s.afterAlloc.port = s.port := rfl
@[simp] theorem afterAlloc_sched : s.afterAlloc.sched = s.sched := rfl
@[simp] theorem afterAlloc_answers : s.afterAlloc.answers = s.answers := rfl
@[simp] theorem afterAlloc_allocs : s.afterAlloc.allocs = s.allocs.tail := rfl
@[simp] theorem afterAlloc_draws : s.afterAlloc.draws = s.draws + 1 := rfl

/-! ### afterTransport -/

@[simp] theorem afterTransport_cfg (F : List Byte) : (s.afterTransport F).cfg = s.cfg := rfl
@[simp] theorem afterTransport_pb (F : List Byte) : (s.afterTransport F).pb = s.pb := rfl
@[simp] theorem afterTransport_seq (F : List Byte) : (s.afterTransport F).seq = s.seq := rfl
@[simp] theorem afterTransport_uph (F : List Byte) : (s.afterTransport F).uph = s.uph := rfl
@[simp] theorem afterTransport_busy (F : List Byte) : (s.afterTransport F).busy = s.busy := rfl
@[simp] theorem afterTransport_cmd (F : List Byte) : (s.afterTransport F).cmd = s.cmd := rfl
@[simp] theorem afterTransport_payload (F : List Byte) : (s.afterTransport F).payload = s.payload := rfl
@[simp] theorem afterTransport_off (F : List Byte) : (s.afterTransport F).off = s.off := rfl
@[simp] theorem afterTransport_cnt (F : List Byte) : (s.afterTransport F).cnt = s.cnt := rfl
@[simp] theorem afterTransport_val (F : List Byte) : (s.afterTransport F).val = s.val := rfl
@[simp] theorem afterTransport_cursor (F : List Byte) : (s.afterTransport F).cursor = s.cursor := rfl
@[simp] theorem afterTransport_wf (F : List Byte) : (s.afterTransport F).wf = s.wf := rfl
@[simp] theorem afterTransport_pi (F : List Byte) : (s.afterTransport F).pi = s.pi := rfl
@[simp] theorem afterTransport_tlog (F : List Byte) : (s.afterTransport F).tlog = s.tlog ++ [(F, s.transportAnswer F)] := rfl
@[simp] theorem afterTransport_op (F : List Byte) : (s.afterTransport F).op = s.op := rfl
@[simp] theorem afterTransport_issue (F : List Byte) : (s.afterTransport F).issue = s.issue := rfl
@[simp] theorem afterTransport_pbOld (F : List Byte) : (s.afterTransport F).pbOld = s.pbOld := rfl
@[simp] theorem afterTransport_returned (F : List Byte) : (s.afterTransport F).returned = s.returned := rfl
@[simp] theorem afterTransport_port (F : List Byte) : (s.afterTransport F).port = s.port := rfl
@[simp] theorem afterTransport_sched (F : List Byte) : (s.afterTransport F).sched = s.sched := rfl
@[simp] theorem afterTransport_answers (F : List Byte) : (s.afterTransport F).answers = s.answers.tail := rfl
@[simp] theorem afterTransport_allocs (F : List Byte) : (s.afterTransport F).allocs = s.allocs := rfl
@[simp] theorem afterTransport_draws (F : List Byte) : (s.afterTransport F).draws = s.draws := rfl

/-! ### takeRequest -/

@[simp] theorem takeRequest_cfg (l : List HostReq) : (s.takeRequest l).cfg = s.cfg := rfl
@[simp] theorem takeRequest_pb (l : List HostReq) : (s.takeRequest l).pb = s.pb := rfl
@[simp] theorem takeRequest_seq (l : List HostReq) : (s.takeRequest l).seq = s.seq := rfl
@[simp] theorem takeRequest_uph (l : List HostReq) : (s.takeRequest l).uph = s.uph := rfl
@[simp] theorem takeRequest_busy (l : List HostReq) : (s.takeRequest l).busy = s.busy := rfl
@[simp] theorem takeRequest_cmd (l : List HostReq) : (s.takeRequest l).cmd = s.cmd := rfl
@[simp] theorem takeRequest_payload (l : List HostReq) : (s.takeRequest l).payload = s.payload := rfl
@[simp] theorem takeRequest_off (l : List HostReq) : (s.takeRequest l).off = s.off := rfl
@[simp] theorem takeRequest_cnt (l : List HostReq) : (s.takeRequest l).cnt = s.cnt := rfl
@[simp] theorem takeRequest_val (l : List HostReq) : (s.takeRequest l).val = s.val := rfl
@[simp] theorem takeRequest_cursor (l : List HostReq) : (s.takeRequest l).cursor = s.cursor := rfl
@[simp] theorem takeRequest_wf (l : List HostReq) : (s.takeRequest l).wf = s.wf := rfl
@[simp] theorem takeRequest_pi (l : List HostReq) : (s.takeRequest l).pi = s.pi := rfl
@[simp] theorem takeRequest_tlog (l : List HostReq) : (s.takeRequest l).tlog = s.tlog := rfl
@[simp] theorem takeRequest_op (l : List HostReq) : (s.takeRequest l).op = s.op := rfl
@[simp] theorem takeRequest_issue (l : List HostReq) : (s.takeRequest l).issue = s.issue := rfl
@[simp] theorem takeRequest_pbOld (l : List HostReq) : (s.takeRequest l).pbOld = s.pbOld := rfl
@[simp] theorem takeRequest_returned (l : List HostReq) : (s.takeRequest l).returned = s.returned := rfl
@[simp] theorem takeRequest_port (l : List HostReq) : (s.takeRequest l).port = l := rfl
@[simp] theorem takeRequest_sched (l : List HostReq) : (s.takeRequest l).sched = s.sched := rfl
@[simp] theorem takeRequest_answers (l : List HostReq) : (s.takeRequest l).answers = s.answers := rfl
@[simp] theorem takeRequest_allocs (l : List HostReq) : (s.takeRequest l).allocs = s.allocs := rfl
@[simp] theorem takeRequest_draws (l : List HostReq) : (s.takeRequest l).draws = s.draws := rfl

/-! ### takeTurn -/

@[simp] theorem takeTurn_cfg : s.takeTurn.cfg = s.cfg := rfl
@[simp] theorem takeTurn_pb : s.takeTurn.pb = s.pb := rfl
@[simp] theorem takeTurn_seq : s.takeTurn.seq = s.seq := rfl
@[simp] theorem takeTurn_uph : s.takeTurn.uph = s.uph := rfl
@[simp] theorem takeTurn_busy : s.takeTurn.busy = s.busy := rfl
@[simp] theorem takeTurn_cmd : s.takeTurn.cmd = s.cmd := rfl
@[simp] theorem takeTurn_payload : s.takeTurn.payload = s.payload := rfl
@[simp] theorem takeTurn_off : s.takeTurn.off = s.off := rfl
@[simp] theorem takeTurn_cnt : s.takeTurn.cnt = s.cnt := rfl
@[simp] theorem takeTurn_val : s.takeTurn.val = s.val := rfl
@[simp] theorem takeTurn_cursor : s.takeTurn.cursor = s.cursor := rfl
@[simp] theorem takeTurn_wf : s.takeTurn.wf = s.wf := rfl
@[simp] theorem takeTurn_pi : s.takeTurn.pi = s.pi := rfl
@[simp] theorem takeTurn_tlog : s.takeTurn.tlog = s.tlog := rfl
@[simp] theorem takeTurn_op : s.takeTurn.op = s.op := rfl
@[simp] theorem takeTurn_issue : s.takeTurn.issue = s.issue := rfl
@[simp] theorem takeTurn_pbOld : s.takeTurn.pbOld = s.pbOld := rfl
@[simp] theorem takeTurn_returned : s.takeTurn.returned = s.returned := rfl
@[simp] theorem takeTurn_port : s.takeTurn.port = s.port := rfl
@[simp] theorem takeTurn_sched : s.takeTurn.sched = s.sched.tail := rfl
@[simp] theorem takeTurn_answers : s.takeTurn.answers = s.answers := rfl
@[simp] theorem takeTurn_allocs : s.takeTurn.allocs = s.allocs := rfl
@[simp] theorem takeTurn_draws : s.takeTurn.draws = s.draws := rfl

/-! ### The draws after an update that does not make one -/

@[simp] theorem start_allocAnswer (op : Selector) (size : Nat) : (s.start op).allocAnswer size = s.allocAnswer size := rfl
@[simp] theorem start_transportAnswer (op : Selector) (frame : List Byte) : (s.start op).transportAnswer frame = s.transportAnswer frame := rfl
@[simp] theorem latchSend_allocAnswer (c : Byte) (p : List Byte) (size : Nat) : (s.latchSend c p).allocAnswer size = s.allocAnswer size := rfl
@[simp] theorem latchSend_transportAnswer (c : Byte) (p : List Byte) (frame : List Byte) : (s.latchSend c p).transportAnswer frame = s.transportAnswer frame := rfl
@[simp] theorem latchPort_allocAnswer (o n : Nat) (size : Nat) : (s.latchPort o n).allocAnswer size = s.allocAnswer size := rfl
@[simp] theorem latchPort_transportAnswer (o n : Nat) (frame : List Byte) : (s.latchPort o n).transportAnswer frame = s.transportAnswer frame := rfl
@[simp] theorem latchVal_allocAnswer (v : Nat) (size : Nat) : (s.latchVal v).allocAnswer size = s.allocAnswer size := rfl
@[simp] theorem latchVal_transportAnswer (v : Nat) (frame : List Byte) : (s.latchVal v).transportAnswer frame = s.transportAnswer frame := rfl
@[simp] theorem setPb_allocAnswer (m : Memory) (size : Nat) : (s.setPb m).allocAnswer size = s.allocAnswer size := rfl
@[simp] theorem setPb_transportAnswer (m : Memory) (frame : List Byte) : (s.setPb m).transportAnswer frame = s.transportAnswer frame := rfl
@[simp] theorem setSeq_allocAnswer (q : Seq) (size : Nat) : (s.setSeq q).allocAnswer size = s.allocAnswer size := rfl
@[simp] theorem setSeq_transportAnswer (q : Seq) (frame : List Byte) : (s.setSeq q).transportAnswer frame = s.transportAnswer frame := rfl
@[simp] theorem setPhase_allocAnswer (u : Phase) (size : Nat) : (s.setPhase u).allocAnswer size = s.allocAnswer size := rfl
@[simp] theorem setPhase_transportAnswer (u : Phase) (frame : List Byte) : (s.setPhase u).transportAnswer frame = s.transportAnswer frame := rfl
@[simp] theorem putWriter_allocAnswer (w : Writer) (size : Nat) : (s.putWriter w).allocAnswer size = s.allocAnswer size := rfl
@[simp] theorem putWriter_transportAnswer (w : Writer) (frame : List Byte) : (s.putWriter w).transportAnswer frame = s.transportAnswer frame := rfl
@[simp] theorem setIssue_allocAnswer (l : List Instr) (size : Nat) : (s.setIssue l).allocAnswer size = s.allocAnswer size := rfl
@[simp] theorem setIssue_transportAnswer (l : List Instr) (frame : List Byte) : (s.setIssue l).transportAnswer frame = s.transportAnswer frame := rfl
@[simp] theorem releaseFrame_allocAnswer (size : Nat) : s.releaseFrame.allocAnswer size = s.allocAnswer size := rfl
@[simp] theorem releaseFrame_transportAnswer (frame : List Byte) : s.releaseFrame.transportAnswer frame = s.transportAnswer frame := rfl
@[simp] theorem putImage_allocAnswer (b : List Byte) (size : Nat) : (s.putImage b).allocAnswer size = s.allocAnswer size := rfl
@[simp] theorem putImage_transportAnswer (b : List Byte) (frame : List Byte) : (s.putImage b).transportAnswer frame = s.transportAnswer frame := rfl
@[simp] theorem releaseImage_allocAnswer (size : Nat) : s.releaseImage.allocAnswer size = s.allocAnswer size := rfl
@[simp] theorem releaseImage_transportAnswer (frame : List Byte) : s.releaseImage.transportAnswer frame = s.transportAnswer frame := rfl
@[simp] theorem rememberPb_allocAnswer (size : Nat) : s.rememberPb.allocAnswer size = s.allocAnswer size := rfl
@[simp] theorem rememberPb_transportAnswer (frame : List Byte) : s.rememberPb.transportAnswer frame = s.transportAnswer frame := rfl
@[simp] theorem deliver_allocAnswer (r : Result) (size : Nat) : (s.deliver r).allocAnswer size = s.allocAnswer size := rfl
@[simp] theorem deliver_transportAnswer (r : Result) (frame : List Byte) : (s.deliver r).transportAnswer frame = s.transportAnswer frame := rfl
@[simp] theorem finish_allocAnswer (r : Result) (size : Nat) : (s.finish r).allocAnswer size = s.allocAnswer size := rfl
@[simp] theorem finish_transportAnswer (r : Result) (frame : List Byte) : (s.finish r).transportAnswer frame = s.transportAnswer frame := rfl
@[simp] theorem raise_allocAnswer (r : Result) (size : Nat) : (s.raise r).allocAnswer size = s.allocAnswer size := rfl
@[simp] theorem raise_transportAnswer (r : Result) (frame : List Byte) : (s.raise r).transportAnswer frame = s.transportAnswer frame := rfl
@[simp] theorem afterAlloc_transportAnswer (frame : List Byte) : s.afterAlloc.transportAnswer frame = s.transportAnswer frame := rfl
@[simp] theorem afterTransport_allocAnswer (F : List Byte) (size : Nat) : (s.afterTransport F).allocAnswer size = s.allocAnswer size := rfl
@[simp] theorem takeRequest_allocAnswer (l : List HostReq) (size : Nat) : (s.takeRequest l).allocAnswer size = s.allocAnswer size := rfl
@[simp] theorem takeRequest_transportAnswer (l : List HostReq) (frame : List Byte) : (s.takeRequest l).transportAnswer frame = s.transportAnswer frame := rfl
@[simp] theorem takeTurn_allocAnswer (size : Nat) : s.takeTurn.allocAnswer size = s.allocAnswer size := rfl
@[simp] theorem takeTurn_transportAnswer (frame : List Byte) : s.takeTurn.transportAnswer frame = s.transportAnswer frame := rfl

end Sys2Proof.Machine.State
end

