-- ==== Sys2Proof/Laws/Sending.lean ====
section
/-! SUPPORT. What SEND, INIT's loop and the draws do: one lemma per shared operation, and each field a send leaves
alone. -/

namespace Sys2Proof.Machine

/-! ### Draws depend on their own fields only -/

theorem transportAnswer_congr {s t : State} (F : List Byte) (ha : t.answers = s.answers) (hl : t.tlog = s.tlog)
    (hc : t.cfg = s.cfg) : t.transportAnswer F = s.transportAnswer F := by
  simp only [State.transportAnswer, ha, hl, hc]

theorem allocAnswer_congr {s t : State} (n : Nat) (ha : t.allocs = s.allocs) (hd : t.draws = s.draws) :
    t.allocAnswer n = s.allocAnswer n := by
  simp only [State.allocAnswer, ha, hd]

/-! ### Admission -/

/-- What admission checks, and in which order. -/
theorem admission_eq_none {s : State} : s.admission = none ↔ s.cfg.valid = true ∧ s.busy = false := by
  unfold State.admission
  cases s.cfg.valid <;> cases s.busy <;> simp

theorem admission_busy {s : State} (hv : s.cfg.valid = true) (hb : s.busy = true) : s.admission = some .busy := by
  simp [State.admission, hv, hb]

theorem admission_badConfig {s : State} (hv : s.cfg.valid = false) : s.admission = some .badConfig := by
  simp [State.admission, hv]

/-! ### Packing -/

/-- When a packing sub-operation answers a next state, and which. -/
theorem onFrame_eq_next {n : Nat} {f : Writer → Writer} {s t : State} :
    onFrame n f s = .next t ↔
      ∃ F, s.wf = some F ∧ s.cursor + n ≤ 8 * F.length ∧ t = s.putWriter (f ⟨F, s.cursor⟩) := by
  unfold onFrame
  cases hw : s.wf with
  | none => simp
  | some F =>
    by_cases hc : s.cursor + n ≤ 8 * F.length
    · simp [hc, eq_comm]
    · simp [hc]

theorem onFrame_of_room {n : Nat} {f : Writer → Writer} {s : State} {F : List Byte} (hw : s.wf = some F)
    (hc : s.cursor + n ≤ 8 * F.length) : onFrame n f s = .next (s.putWriter (f ⟨F, s.cursor⟩)) :=
  onFrame_eq_next.2 ⟨F, hw, hc, rfl⟩

theorem onFrame_of_noFrame {n : Nat} {f : Writer → Writer} {s : State} (hw : s.wf = none) :
    onFrame n f s = .fault .noFrame := by simp [onFrame, hw]

theorem onFrame_of_pastEnd {n : Nat} {f : Writer → Writer} {s : State} {F : List Byte} (hw : s.wf = some F)
    (hc : 8 * F.length < s.cursor + n) : onFrame n f s = .fault .pastFrameEnd := by
  simp [onFrame, hw]; omega

/-! ### SEND -/

/-- A send whose WireFrame is not obtained: nothing is sent. -/
theorem sendOp_of_allocFails {c : Byte} {p : List Byte} {s : State}
    (h : s.allocAnswer (frameLength p.length) = false) :
    sendOp c p s = ((s.latchSend c p).afterAlloc, .allocationError) := by
  simp [sendOp, h]

/-- A send whose WireFrame is obtained: its frame is logged with the answer, and released. -/
theorem sendOp_of_allocOk {c : Byte} {p : List Byte} {s : State}
    (h : s.allocAnswer (frameLength p.length) = true) :
    sendOp c p s =
      (((((s.latchSend c p).afterAlloc).putWriter (encodeWriter c p)).afterTransport (encodeFrame c p)).releaseFrame,
        .ofAnswer (s.transportAnswer (encodeFrame c p))) := by
  simp [sendOp, h, encodeFrame]

@[simp] theorem sendOp_cmd (c : Byte) (p : List Byte) (s : State) : (sendOp c p s).1.cmd = c := by
  unfold sendOp; split <;> rfl
@[simp] theorem sendOp_payload (c : Byte) (p : List Byte) (s : State) : (sendOp c p s).1.payload = p := by
  unfold sendOp; split <;> rfl
@[simp] theorem sendOp_allocs (c : Byte) (p : List Byte) (s : State) : (sendOp c p s).1.allocs = s.allocs.tail := by
  unfold sendOp; split <;> rfl
@[simp] theorem sendOp_draws (c : Byte) (p : List Byte) (s : State) : (sendOp c p s).1.draws = s.draws + 1 := by
  unfold sendOp; split <;> rfl
@[simp] theorem sendOp_cfg (c : Byte) (p : List Byte) (s : State) : (sendOp c p s).1.cfg = s.cfg := by
  unfold sendOp; split <;> rfl
@[simp] theorem sendOp_pb (c : Byte) (p : List Byte) (s : State) : (sendOp c p s).1.pb = s.pb := by
  unfold sendOp; split <;> rfl
@[simp] theorem sendOp_seq (c : Byte) (p : List Byte) (s : State) : (sendOp c p s).1.seq = s.seq := by
  unfold sendOp; split <;> rfl
@[simp] theorem sendOp_uph (c : Byte) (p : List Byte) (s : State) : (sendOp c p s).1.uph = s.uph := by
  unfold sendOp; split <;> rfl
@[simp] theorem sendOp_busy (c : Byte) (p : List Byte) (s : State) : (sendOp c p s).1.busy = s.busy := by
  unfold sendOp; split <;> rfl
@[simp] theorem sendOp_off (c : Byte) (p : List Byte) (s : State) : (sendOp c p s).1.off = s.off := by
  unfold sendOp; split <;> rfl
@[simp] theorem sendOp_cnt (c : Byte) (p : List Byte) (s : State) : (sendOp c p s).1.cnt = s.cnt := by
  unfold sendOp; split <;> rfl
@[simp] theorem sendOp_val (c : Byte) (p : List Byte) (s : State) : (sendOp c p s).1.val = s.val := by
  unfold sendOp; split <;> rfl
@[simp] theorem sendOp_pi (c : Byte) (p : List Byte) (s : State) : (sendOp c p s).1.pi = s.pi := by
  unfold sendOp; split <;> rfl
@[simp] theorem sendOp_op (c : Byte) (p : List Byte) (s : State) : (sendOp c p s).1.op = s.op := by
  unfold sendOp; split <;> rfl
@[simp] theorem sendOp_pbOld (c : Byte) (p : List Byte) (s : State) : (sendOp c p s).1.pbOld = s.pbOld := by
  unfold sendOp; split <;> rfl
@[simp] theorem sendOp_returned (c : Byte) (p : List Byte) (s : State) : (sendOp c p s).1.returned = s.returned := by
  unfold sendOp; split <;> rfl
@[simp] theorem sendOp_port (c : Byte) (p : List Byte) (s : State) : (sendOp c p s).1.port = s.port := by
  unfold sendOp; split <;> rfl
@[simp] theorem sendOp_sched (c : Byte) (p : List Byte) (s : State) : (sendOp c p s).1.sched = s.sched := by
  unfold sendOp; split <;> rfl

/-! A send takes no notice of the fields it does not read. -/

theorem sendOp_setPhase (c : Byte) (p : List Byte) (u : Phase) (s : State) :
    sendOp c p (s.setPhase u) = ((sendOp c p s).1.setPhase u, (sendOp c p s).2) := by
  cases h : s.allocAnswer (frameLength p.length)
  · rw [sendOp_of_allocFails h, sendOp_of_allocFails (s := s.setPhase u) h]; rfl
  · rw [sendOp_of_allocOk h, sendOp_of_allocOk (s := s.setPhase u) h]; rfl

theorem sendOp_setSeq (c : Byte) (p : List Byte) (q : Seq) (s : State) :
    sendOp c p (s.setSeq q) = ((sendOp c p s).1.setSeq q, (sendOp c p s).2) := by
  cases h : s.allocAnswer (frameLength p.length)
  · rw [sendOp_of_allocFails h, sendOp_of_allocFails (s := s.setSeq q) h]; rfl
  · rw [sendOp_of_allocOk h, sendOp_of_allocOk (s := s.setSeq q) h]; rfl

theorem sendOp_start (c : Byte) (p : List Byte) (o : Selector) (s : State) :
    sendOp c p (s.start o) = ((sendOp c p s).1.start o, (sendOp c p s).2) := by
  cases h : s.allocAnswer (frameLength p.length)
  · rw [sendOp_of_allocFails h, sendOp_of_allocFails (s := s.start o) h]; rfl
  · rw [sendOp_of_allocOk h, sendOp_of_allocOk (s := s.start o) h]; rfl

theorem sendOp_putImage (c : Byte) (p image : List Byte) (s : State) :
    sendOp c p (s.putImage image) = ((sendOp c p s).1.putImage image, (sendOp c p s).2) := by
  cases h : s.allocAnswer (frameLength p.length)
  · rw [sendOp_of_allocFails h, sendOp_of_allocFails (s := s.putImage image) h]; rfl
  · rw [sendOp_of_allocOk h, sendOp_of_allocOk (s := s.putImage image) h]; rfl

/-- A send logs its frame with the answer, or nothing. -/
theorem sendOp_tlog (c : Byte) (p : List Byte) (s : State) :
    (sendOp c p s).1.tlog =
      s.tlog ++ if s.allocAnswer (frameLength p.length) then [(encodeFrame c p, s.transportAnswer (encodeFrame c p))]
        else [] := by
  cases h : s.allocAnswer (frameLength p.length)
  · simp [sendOp_of_allocFails h]
  · simp [sendOp_of_allocOk h]

/-- When a send succeeds. -/
theorem sendOp_eq_ok {c : Byte} {p : List Byte} {s : State} :
    (sendOp c p s).2 = .ok ↔
      s.allocAnswer (frameLength p.length) = true ∧ s.transportAnswer (encodeFrame c p) = .ok := by
  cases h : s.allocAnswer (frameLength p.length)
  · simp [sendOp_of_allocFails h]
  · rw [sendOp_of_allocOk h]
    cases s.transportAnswer (encodeFrame c p) <;> simp [Result.ofAnswer]

/-- A send leaves no WireFrame behind if none existed. -/
theorem sendOp_wf (c : Byte) (p : List Byte) {s : State} (h : s.wf = none) : (sendOp c p s).1.wf = none := by
  unfold sendOp; split
  · rfl
  · exact h

theorem sendOp_issue (c : Byte) (p : List Byte) {s : State} (h : s.issue = []) : (sendOp c p s).1.issue = [] := by
  unfold sendOp; split
  · rfl
  · exact h

end Sys2Proof.Machine
end

