-- ==== Sys2Proof/Laws/Display.lean ====
section
/-! SUPPORT. What the shared operations of the DisplayUpdater and of the PixelBuffer port do, once each. -/

namespace Sys2Proof.Machine

/-! ### The reformatter -/

theorem length_pixelPair (b : Byte) : (pixelPair b).length = 2 := rfl

/-- Rows of equal length laid end to end: the element at row `y`, place `j`. -/
theorem getD_flatMap_const {α : Type} (d : α) (f : Nat → List α) (k : Nat) (hk : ∀ y, (f y).length = k) :
    ∀ n y j, y < n → j < k → ((List.range n).flatMap f).getD (y * k + j) d = (f y).getD j d := by
  intro n
  induction n with
  | zero => intro y j h; omega
  | succ n ih =>
    intro y j hy hj
    have hlen : ((List.range n).flatMap f).length = n * k := by simp [List.length_flatMap, hk]
    rw [List.range_succ, List.flatMap_append, List.flatMap_cons, List.flatMap_nil, List.append_nil]
    rcases Nat.lt_succ_iff_lt_or_eq.1 hy with hlt | rfl
    · rw [List.getD_append _ _ _ _ (by rw [hlen]; nlinarith)]
      exact ih y j hlt hj
    · rw [List.getD_append_right _ _ _ _ (by rw [hlen]; omega), hlen, Nat.add_sub_cancel_left]

theorem length_row (g : Config) (pixel : Nat → Byte) (y : Nat) :
    ((List.range g.rowBytes).flatMap fun xb => pixelPair (pixel (y * g.rowBytes + xb))).length = g.rowBytes * 2 := by
  simp [List.length_flatMap, length_pixelPair]

/-- The image's length, by rows. -/
theorem length_panelImage (g : Config) (pixel : Nat → Byte) :
    (panelImage g pixel).length = g.height * (g.rowBytes * 2) := by
  simp [panelImage, List.length_flatMap, length_pixelPair]

/-- An image byte by row, byte column and half (R122). -/
theorem getD_panelImage (g : Config) (pixel : Nat → Byte) {y xb h : Nat} (hy : y < g.height) (hx : xb < g.rowBytes)
    (hh : h < 2) :
    (panelImage g pixel).getD (y * (g.rowBytes * 2) + (xb * 2 + h)) 0 =
      (pixelPair (pixel (y * g.rowBytes + xb))).getD h 0 := by
  rw [panelImage, getD_flatMap_const 0 _ _ (length_row g pixel) _ _ _ hy (by omega),
    getD_flatMap_const 0 _ 2 (fun _ => rfl) _ _ _ hx hh]

/-- With no write racing, a pixel read is a read of the PixelBuffer. -/
theorem pixelRead_quiet {s : State} (h : s.pbOld = []) : s.pixelRead = s.pb.read := by
  funext i; simp [State.pixelRead, h]

/-- A racing read sees the byte of one of the moments of the phase. -/
theorem pixelRead_mem (s : State) (i : Nat) : ∃ m ∈ s.pb :: s.pbOld, s.pixelRead i = m.read i := by
  unfold State.pixelRead
  split
  · exact ⟨s.pb, by simp, rfl⟩
  · have hlt := Nat.mod_lt (Config.raceDraw s.draws i) (show 0 < (s.pb :: s.pbOld).length by simp)
    exact ⟨_, List.getElem_mem hlt, by rw [List.getD_eq_getElem _ _ hlt]⟩

/-! ### The RAM write -/

theorem buildOp_of_allocOk {s : State} (h : s.allocAnswer s.cfg.piSize = true) :
    buildOp s = ((s.afterAlloc.putImage s.reformatted).setPhase .write, .ok) := by simp [buildOp, h]

theorem buildOp_of_allocFails {s : State} (h : s.allocAnswer s.cfg.piSize = false) :
    buildOp s = (s.afterAlloc, .allocationError) := by simp [buildOp, h]

/-- WRITERAM without a PanelImage: nothing is sent. -/
theorem writeRamOp_of_allocFails {s : State} (h : s.allocAnswer s.cfg.piSize = false) :
    writeRamOp s = (((s.setPhase .build).afterAlloc.releaseImage).setPhase .none, .allocationError) := by
  have h' : (s.setPhase .build).allocAnswer (s.setPhase .build).cfg.piSize = false := h
  simp [writeRamOp, buildOp_of_allocFails h']

/-- WRITERAM with a PanelImage and no write racing: one send of the image, which is then released. -/
theorem writeRamOp_of_allocOk {s : State} (h : s.allocAnswer s.cfg.piSize = true) (hq : s.pbOld = []) :
    let image := panelImage s.cfg s.pb.read
    let r := sendOp (s.cfg.opcode .writeRam) image
      ((((s.setPhase .build).afterAlloc).putImage image).setPhase .write)
    writeRamOp s = (r.1.releaseImage, r.2) := by
  have h' : (s.setPhase .build).allocAnswer (s.setPhase .build).cfg.piSize = true := h
  have hi : (s.setPhase .build).reformatted = panelImage s.cfg s.pb.read := by
    rw [State.reformatted, pixelRead_quiet (by exact hq)]; rfl
  simp [writeRamOp, buildOp_of_allocOk h', hi]

/-! ### The port -/

theorem pbWriteOp_of_beyond {s : State} {off : Nat} {data : List Byte} (h : off > s.cfg.pbSize) :
    pbWriteOp off data s = (s.latchPort off data.length, .offsetRejected) := by simp [pbWriteOp, h]

theorem pbWriteOp_of_inside {s : State} {off : Nat} {data : List Byte} (h : off ≤ s.cfg.pbSize) :
    pbWriteOp off data s =
      ((if s.uph = .build then (s.latchPort off data.length).rememberPb else s.latchPort off data.length).setPb
        (s.pb.writeBytes off (data.take (s.writeCount off data.length))), .okCount (s.writeCount off data.length)) := by
  simp [pbWriteOp, show ¬off > s.cfg.pbSize by omega]

end Sys2Proof.Machine
end

