-- ==== Sys2Proof/Laws/PerInstr.lean ====
section
/-! SUPPORT. One statement per instruction: decoding its words gives what its words stand for (Instr.canonical). -/

namespace Sys2Proof

theorem decodeUnit_commandUnit (c : Byte) : decodeUnit (commandUnit c) = .cmdu c := by
  have h : (commandUnit c).getLsbD 8 = false := by simp [commandUnit]
  simp only [decodeUnit, h, Bool.false_eq_true, if_false]
  simp [commandUnit]

theorem decodeUnit_dataUnit (d : Byte) : decodeUnit (dataUnit d) = .datu d := by
  have h : (dataUnit d).getLsbD 8 = true := by simp [dataUnit]
  simp only [decodeUnit, h, if_true, Instr.datu.injEq]
  ext i hi
  simp [dataUnit]

theorem decodeHost_reserved (x : BitVec 3) : decodeHost { op := 8 ||| x.setWidth 4 } = .reservedHop x := by
  revert x; decide

namespace Laws.RoundTrip

/-- Decoding the words of `i` gives what they stand for, whatever the configuration. -/
def Statement (i : Instr) : Prop := ∀ g : Config, decodeWords (encode g i) = i.canonical g

theorem cmdu (c : Byte) : Statement (.cmdu c) := fun _ => congrArg some (decodeUnit_commandUnit c)
theorem datu (d : Byte) : Statement (.datu d) := fun _ => congrArg some (decodeUnit_dataUnit d)
theorem encode (c : Byte) (p : List Byte) : Statement (.encode c p) := fun _ => rfl
theorem send (c : Byte) (p : List Byte) : Statement (.send c p) := fun _ => rfl
theorem init : Statement .init := fun _ => rfl
theorem update : Statement .update := fun _ => rfl
theorem pbRead (o n : Nat) : Statement (.pbRead o n) := fun _ => rfl
theorem pbWrite (o : Nat) (d : List Byte) : Statement (.pbWrite o d) := fun _ => rfl
theorem chkGray (v : Nat) : Statement (.chkGray v) := fun _ => rfl
theorem shutdown : Statement .shutdown := fun _ => rfl
theorem reservedHop (x : BitVec 3) : Statement (.reservedHop x) := fun _ => congrArg some (decodeHost_reserved x)
theorem writeBit (b : Bool) : Statement (.writeBit b) := fun _ => rfl
theorem writeByte (v : Byte) : Statement (.writeByte v) := fun _ => rfl
theorem writeUnit (d : Bool) (v : Byte) : Statement (.writeUnit d v) := fun _ => rfl
theorem reformat : Statement .reformat := fun _ => rfl
theorem setColWin : Statement .setColWin := fun _ => rfl
theorem setRowWin : Statement .setRowWin := fun _ => rfl
theorem writeRam : Statement .writeRam := fun _ => rfl
theorem decode (F : List Byte) : Statement (.decode F) := fun _ => rfl
theorem hostWrite (o : Nat) (d : List Byte) : Statement (.hostWrite o d) := fun _ => rfl
theorem transportSend (F : List Byte) : Statement (.transportSend F) := fun _ => rfl
theorem opcDisplayOn : Statement .opcDisplayOn := fun g => congrArg some (decodeUnit_commandUnit (g.opcode _))
theorem opcUnlock : Statement .opcUnlock := fun g => congrArg some (decodeUnit_commandUnit (g.opcode _))
theorem opcClockDiv : Statement .opcClockDiv := fun g => congrArg some (decodeUnit_commandUnit (g.opcode _))
theorem opcMuxRatio : Statement .opcMuxRatio := fun g => congrArg some (decodeUnit_commandUnit (g.opcode _))
theorem opcDisplayOffset : Statement .opcDisplayOffset := fun g => congrArg some (decodeUnit_commandUnit (g.opcode _))
theorem opcFunctionSel : Statement .opcFunctionSel := fun g => congrArg some (decodeUnit_commandUnit (g.opcode _))
theorem opcStartLine : Statement .opcStartLine := fun g => congrArg some (decodeUnit_commandUnit (g.opcode _))
theorem opcRemap : Statement .opcRemap := fun g => congrArg some (decodeUnit_commandUnit (g.opcode _))
theorem opcContrastMaster : Statement .opcContrastMaster := fun g => congrArg some (decodeUnit_commandUnit (g.opcode _))
theorem opcContrastLevel : Statement .opcContrastLevel := fun g => congrArg some (decodeUnit_commandUnit (g.opcode _))
theorem opcPhaseLen : Statement .opcPhaseLen := fun g => congrArg some (decodeUnit_commandUnit (g.opcode _))
theorem opcPrechargeV : Statement .opcPrechargeV := fun g => congrArg some (decodeUnit_commandUnit (g.opcode _))
theorem opcExtVsl : Statement .opcExtVsl := fun g => congrArg some (decodeUnit_commandUnit (g.opcode _))
theorem opcVcomh : Statement .opcVcomh := fun g => congrArg some (decodeUnit_commandUnit (g.opcode _))
theorem opcDisplayMode : Statement .opcDisplayMode := fun g => congrArg some (decodeUnit_commandUnit (g.opcode _))
theorem opcPartialExit : Statement .opcPartialExit := fun g => congrArg some (decodeUnit_commandUnit (g.opcode _))
theorem opcEnhance : Statement .opcEnhance := fun g => congrArg some (decodeUnit_commandUnit (g.opcode _))
theorem opcGpio : Statement .opcGpio := fun g => congrArg some (decodeUnit_commandUnit (g.opcode _))
theorem opcGrayDefault : Statement .opcGrayDefault := fun g => congrArg some (decodeUnit_commandUnit (g.opcode _))
theorem opcPrecharge2 : Statement .opcPrecharge2 := fun g => congrArg some (decodeUnit_commandUnit (g.opcode _))
theorem opcSetColumn : Statement .opcSetColumn := fun g => congrArg some (decodeUnit_commandUnit (g.opcode _))
theorem opcSetRow : Statement .opcSetRow := fun g => congrArg some (decodeUnit_commandUnit (g.opcode _))
theorem opcWriteRam : Statement .opcWriteRam := fun g => congrArg some (decodeUnit_commandUnit (g.opcode _))

end Laws.RoundTrip

end Sys2Proof
end

