-- ==== Sys2Proof/Laws/Sequencer.lean ====
section
/-! SUPPORT. What the ends of an operation, the units that wait and the window of a PB_WRITE do, once each. -/

namespace Sys2Proof.Machine

/-! ### The end of an operation -/

theorem raise_seq_ne_sending (s : State) (r : Result) (i : Nat) : (s.raise r).seq ≠ .sending i := by
  simp; cases s.seq <;> simp

/-- Whatever was in progress, nothing is left of it once an error is raised at the host port (R164). -/
theorem quiet_raise (s : State) (r : Result) : Quiet (s.raise r) :=
  ⟨rfl, rfl, rfl, rfl, rfl, rfl, raise_seq_ne_sending s r⟩

/-- A quiet state with a canonical PixelBuffer meets the invariant. -/
theorem inv_of_quiet {s : State} (hq : Quiet s) (hp : PbOk s.cfg s.pb) : Inv s := by
  obtain ⟨h1, h2, h3, h4, h5, h6, h7⟩ := hq
  exact ⟨hp, by simp [h5], fun _ => ⟨h1, h2, h3, h4, h5, h6, h7⟩, by simp [h1], by simp [h6],
    fun i hi => absurd hi (h7 i), by simp [h1], by simp [h4, h6], by simp [h4], by simp [h5], by simp [h2],
    fun _ => h3, by simp [h2]⟩

/-! ### Sends and UPDATE -/

/-- What a send that succeeds leaves (R101): one entry answered OK, one answer used, no WireFrame. -/
theorem sendOp_ok_entry {e : SendArgs} {s : State} (h : (sendOp e.1 e.2 s).2 = .ok) :
    (sendOp e.1 e.2 s).1.tlog = s.tlog ++ [(e.frame, .ok)] ∧ (sendOp e.1 e.2 s).1.answers = s.answers.tail ∧
      (sendOp e.1 e.2 s).1.wf = none ∧ (sendOp e.1 e.2 s).1.issue = [] ∧
      (sendOp e.1 e.2 s).1.cursor = 9 * (1 + e.2.length) := by
  obtain ⟨ha, ht⟩ := sendOp_eq_ok.1 h
  rw [sendOp_of_allocOk ha]
  simp
  exact ⟨rfl, ht⟩

/-- The three sends of an UPDATE with the phase and the selector pulled out of them (R124). -/
theorem updateOp_start (s : State) (o : Selector) :
    updateOp (s.start o) =
      match sendOp (columnSend s.cfg).1 (columnSend s.cfg).2 s with
      | (s1, .ok) =>
        match sendOp (rowSend s.cfg).1 (rowSend s.cfg).2 s1 with
        | (s2, .ok) => writeRamOp ((s2.start o).setPhase .row)
        | (s2, r) => ((s2.start o).setPhase .row, r)
      | (s1, r) => ((s1.start o).setPhase .col, r) := by
  unfold updateOp setColWinOp setRowWinOp columnSend rowSend
  simp only [sendOp_setPhase, sendOp_start, State.setPhase_cfg, State.start_cfg]
  have hc := sendOp_cfg (s.cfg.opcode .setColumn) (columnWindow s.cfg) s
  rcases h : sendOp (s.cfg.opcode .setColumn) (columnWindow s.cfg) s with ⟨s1, r⟩
  rw [h] at hc
  cases r <;> simp only []
  simp only [] at hc
  simp only [State.setPhase_cfg, State.start_cfg, hc]
  rw [sendOp_setPhase, sendOp_start]
  rcases sendOp (s.cfg.opcode .setRow) (rowWindow s.cfg) s1 with ⟨s2, r2⟩
  cases r2 <;> rfl

/-! ### Units -/

/-- A unit sub-operation packs its discriminator and value. -/
theorem exec_of_unitOf {s : State} {i : Instr} {d : Bool} {v : Byte} (h : unitOf s.cfg i = some (d, v)) :
    exec i s = packUnit d v s := by
  cases i <;> simp [unitOf, Instr.command?] at h <;> obtain ⟨rfl, rfl⟩ := h <;> rfl

theorem foldl_packIssued_datu (g : Config) (p : List Byte) : ∀ w : Writer,
    (p.map Instr.datu).foldl (packIssued g) w = p.foldl (fun w v => w.writeUnit discData v) w := by
  induction p with
  | nil => simp
  | cons v vs ih => intro w; simp [ih, packIssued, unitOf]

/-- Packing the units that wait moves the cursor by nine bits each and keeps the frame's length. -/
theorem foldl_packIssued_size (g : Config) (is : List Instr) : ∀ w : Writer,
    (∀ i ∈ is, (unitOf g i).isSome = true) →
    (is.foldl (packIssued g) w).cursor = w.cursor + 9 * is.length ∧
      (is.foldl (packIssued g) w).buf.length = w.buf.length := by
  induction is with
  | nil => simp
  | cons i is ih =>
    intro w h
    obtain ⟨⟨d, v⟩, hd⟩ := Option.isSome_iff_exists.1 (h i (by simp))
    have := ih (w.writeUnit d v) fun j hj => h j (by simp [hj])
    simp [packIssued, hd, this]; omega

/-! ### Events -/

/-- Raising an error leaves `SEQ` alone unless INIT is sending an entry (R164). -/
theorem raise_seq_of_not_sending {s : State} (r : Result) (h : ∀ i, s.seq ≠ .sending i) :
    (s.raise r).seq = s.seq := by
  rw [State.raise_seq]
  cases hs : s.seq <;> first | rfl | exact absurd hs (h _)

@[simp] theorem initNext_pb (i : Nat) (s : State) : (initNext i s).pb = s.pb := by unfold initNext; split_ifs <;> rfl

@[simp] theorem afterSend_pb (r : Result) (s : State) : (afterSend r s).pb = s.pb := by
  unfold afterSend
  split <;> try rfl
  split <;> try rfl
  split <;> first | rfl | exact initNext_pb _ _

@[simp] theorem acquire_pb (first : Instr) (cmd : Byte) (payload : List Byte) (s : State) :
    (acquire first cmd payload s).pb = s.pb := by
  unfold acquire; simp only; split_ifs
  · rfl
  · exact afterSend_pb _ _

theorem afterSend_seq {s : State} (r : Result) (h : ∀ i, s.seq ≠ .sending i) : (afterSend r s).seq = s.seq := by
  unfold afterSend
  split <;> try exact raise_seq_of_not_sending _ h
  split <;> try rfl
  split <;> first | rfl | (rename_i hs; exact absurd hs (h _))

theorem acquire_seq {s : State} (first : Instr) (cmd : Byte) (payload : List Byte) (h : ∀ i, s.seq ≠ .sending i) :
    (acquire first cmd payload s).seq = s.seq := by
  unfold acquire; simp only; split_ifs
  · rfl
  · exact afterSend_seq _ h

/-! ### Images and windows -/

theorem mem_panelImage {g : Config} {pixel : Nat → Byte} {b : Byte} (h : b ∈ panelImage g pixel) :
    ∃ n, b = greyByte n := by
  simp [panelImage, pixelPair] at h
  obtain ⟨y, _, x, _, h | h⟩ := h
  · exact ⟨_, h⟩
  · exact ⟨_, h⟩

theorem width_of_valid {g : Config} (h : g.valid = true) : g.width = 2 * g.rowBytes := by
  simp [Config.valid] at h; unfold Config.rowBytes; omega

theorem piSize_of_valid {g : Config} (h : g.valid = true) : g.piSize = g.height * (g.rowBytes * 2) := by
  rw [Config.piSize, width_of_valid h]; ring

/-- The window a PB_WRITE stores keeps the PixelBuffer canonical and within its size. -/
theorem pbOk_writeBytes {g : Config} {m : Memory} (off : Nat) (data : List Byte) (h : PbOk g m)
    (ho : off ≤ g.pbSize) : PbOk g (m.writeBytes off (data.take (min data.length (g.pbSize - off)))) :=
  ⟨Memory.wf_writeBytes _ _ h.1, Memory.lt_of_mem_writeBytes _ _ _ h.2 (by simp; omega)⟩

end Sys2Proof.Machine
end

