-- ==== Sys2Proof/Tests/Slice0.lean ====
section
/-! SUPPORT. Tests: words written out from the spec's encodings, the worked examples and vectors of 95_test_vectors.md
(sections named in the docstrings), and for each statement with hypotheses a state and operands that meet them. -/

namespace Sys2Proof.Tests

open Sys2Proof.Machine

/-! ## Small states -/

/-- CFG_TEST (95_test_vectors.md 5.1). -/
def cfgTest : Config where
  width := 8
  height := 2
  lMax := 16
  cmdTable := defaultCmdTable
  colStart := 0x00
  colEnd := 0x01
  rowStart := 0x00
  rowEnd := 0x01
  initTable := [(0xAF, []), (0xFD, [0x12]), (0xAF, [])]
  handle := 0

/-- Reset under CFG_TEST with the draws of a run fixed in advance. -/
def idle (answers : List Answer) (allocs : List Bool) : State :=
  { State.reset with cfg := cfgTest, answers := answers, allocs := allocs }

/-- Every draw good. -/
def fresh : State := idle (List.replicate 4 .ok) (List.replicate 5 true)

/-- After a successful INIT, with a PixelBuffer. -/
def ready (answers : List Answer) (allocs : List Bool) (pb : List Byte) : State :=
  { idle answers allocs with seq := .ready, pb := Memory.writeBytes [] 0 pb }

/-- A WireFrame being packed. -/
def packing (F : List Byte) (cursor : Nat) : State := { fresh with wf := some F, cursor := cursor }

def after (r : Reply) : Option State :=
  match r with
  | .next s => some s
  | .fault _ | .refused _ => none

def refusal (r : Reply) : Option Refusal :=
  match r with
  | .refused e => some e
  | .next _ | .fault _ => none

def results (r : Reply) : Option (List Result) := (after r).map (·.returned)

def log (r : Reply) : Option (List (List Byte × Answer)) := (after r).map (·.tlog)

def frame (r : Reply) : Option (Option (List Byte) × Nat) := (after r).map fun s => (s.wf, s.cursor)

def bytes (r : Reply) : Option (List Byte) := (after r).map fun s => s.pb.readBytes 0 s.cfg.pbSize

theorem exists_next {r : Reply} (h : (after r).isSome = true) : ∃ t, r = .next t := by
  cases r with
  | next s => exact ⟨s, rfl⟩
  | fault _ => simp [after] at h
  | refused _ => simp [after] at h

/-! ## Well-formedness -/

theorem test_wellFormed_refuses_long_encode : wellFormed cfgTest (.encode 0 (List.replicate 17 0)) = false := by decide
theorem test_wellFormed_refuses_long_send : wellFormed cfgTest (.send 0 (List.replicate 17 0)) = false := by decide
theorem test_wellFormed_refuses_no_frame : wellFormed cfgTest (.transportSend [0x80, 0x00]) = false := by decide
theorem test_wellFormed_accepts : wellFormed cfgTest (.send 0 (List.replicate 16 0)) = true ∧
    wellFormed cfgTest (.transportSend [0x57, 0x00]) = true := by decide

/-! ## Decoding and encoding: words from R72's table and R60's patterns -/

theorem test_decode_selectors :
    [0b0000, 0b0001, 0b0010, 0b0011, 0b0100, 0b0101, 0b0110, 0b0111].map (decodeTableWord 8) =
      [some (.encode 0 []), some (.send 0 []), some .init, some .update, some (.pbRead 0 0), some (.pbWrite 0 []),
       some (.chkGray 0), some .shutdown] := by decide
theorem test_decode_reserved : decodeTableWord 8 0b1000 = some (.reservedHop 0) ∧
    decodeTableWord 8 0b1111 = some (.reservedHop 7) := by decide
theorem test_decode_units : decodeTableWord 16 0b011111101 = some (.cmdu 0xFD) ∧
    decodeTableWord 16 0b100000001 = some (.datu 0x01) ∧ decodeTableWord 16 0b1000000000 = none := by decide

/-- Each command symbol with its unit written out, `0cccccccc`, from the values of 93_implementation_defined.md G2. -/
def symbols : List (Instr × WireUnit) :=
  [(.opcDisplayOn, 0b010101111), (.opcUnlock, 0b011111101), (.opcClockDiv, 0b010110011),
   (.opcMuxRatio, 0b011001010), (.opcDisplayOffset, 0b010100010), (.opcFunctionSel, 0b010101011),
   (.opcStartLine, 0b010100001), (.opcRemap, 0b010100000), (.opcContrastMaster, 0b011000111),
   (.opcContrastLevel, 0b011000001), (.opcPhaseLen, 0b010110001), (.opcPrechargeV, 0b010111011),
   (.opcExtVsl, 0b010110100), (.opcVcomh, 0b010111110), (.opcDisplayMode, 0b010100110),
   (.opcPartialExit, 0b010101001), (.opcEnhance, 0b011010001), (.opcGpio, 0b010110101),
   (.opcGrayDefault, 0b010111001), (.opcPrecharge2, 0b010110110), (.opcSetColumn, 0b000010101),
   (.opcSetRow, 0b001110101), (.opcWriteRam, 0b001011100)]

theorem test_encode_symbols : symbols.all (fun e => encode Config.default e.1 = .unit e.2) = true := by decide
theorem test_decode_symbols : symbols.all (fun e => decodeUnit e.2 = .cmdu (e.2.setWidth 8)) = true := by decide

/-! ## The encoder family -/

/-- R80's example. -/
theorem test_writeBit : frame (exec (.writeBit true) (packing [0x00, 0x00] 1)) = some (some [0x40, 0x00], 2) := by
  decide
/-- R81's example. -/
theorem test_writeByte : frame (exec (.writeByte 0xAE) (packing [0x00, 0x00] 1)) = some (some [0x57, 0x00], 9) := by
  decide
/-- R82's example. -/
theorem test_writeUnit : frame (exec (.writeUnit true 0x12) (packing [0, 0, 0] 9)) = some (some [0x00, 0x44, 0x80], 18) := by
  decide
theorem test_datu : frame (exec (.datu 0x12) (packing [0x7E, 0x80, 0x00] 9)) = some (some [0x7E, 0xC4, 0x80], 18) := by
  decide
theorem test_cmdu : frame (exec (.cmdu 0xAE) (packing [0, 0] 0)) = some (some [0x57, 0x00], 9) := by decide
theorem test_cmdu_past_end : exec (.cmdu 0xAE) (packing [0, 0] 8) = .fault .pastFrameEnd := rfl

/-- A symbol alone in a frame: `0`, the opcode, seven pad bits (first bytes as in 95_test_vectors.md 3.3). -/
def symbolFrames : List (List Byte) :=
  [[0x57, 0x80], [0x7E, 0x80], [0x59, 0x80], [0x65, 0x00], [0x51, 0x00], [0x55, 0x80], [0x50, 0x80], [0x50, 0x00],
   [0x63, 0x80], [0x60, 0x80], [0x58, 0x80], [0x5D, 0x80], [0x5A, 0x00], [0x5F, 0x00], [0x53, 0x00], [0x54, 0x80],
   [0x68, 0x80], [0x5A, 0x80], [0x5C, 0x80], [0x5B, 0x00], [0x0A, 0x80], [0x3A, 0x80], [0x2E, 0x00]]

def symbolState : State := { packing [0, 0] 0 with cfg := Config.default }

theorem test_symbols_pack :
    symbols.map (fun e => (frame (exec e.1 symbolState)).bind (·.1)) = symbolFrames.map some := by decide

/-- Scenario A (95_test_vectors.md 1.1). -/
theorem test_encode_scenarioA : results (exec (.encode 0xAE []) fresh) = some [.okFrame [0x57, 0x00]] := by decide
/-- Vector E14 (95_test_vectors.md 2.1). -/
theorem test_encode_e14 :
    encodeFrame 0xB8 ((List.range 16).map (BitVec.ofNat 8)) =
      [0x5C, 0x40, 0x20, 0x30, 0x28, 0x1C, 0x12, 0x0B, 0x06, 0x83, 0xC2, 0x21, 0x30, 0xA8, 0x5C, 0x32, 0x1B, 0x0E, 0x87,
       0x80] := by decide +kernel
/-- Vectors X3 and X8 (95_test_vectors.md 2.3). -/
theorem test_decode_x3 :
    results (exec (.decode [0x2A, 0xEA, 0xAA, 0xBA, 0xA0]) fresh) = some [.okDecoded 0x55 [0xAA, 0x55, 0xAA]] := by
  decide
theorem test_decode_refusals :
    [[], [0x57, 0, 0, 0, 0, 0, 0, 0, 0, 0], [0x80, 0x00], [0x0A, 0xC7, 0x0B, 0x60], [0x0A, 0xC7, 0x2B, 0x61]].map
      (fun F => refusal (exec (.decode F) fresh)) =
      [some .badLength, some .badLength, some .firstUnitNotCommand, some .laterUnitNotData, some .nonzeroPad] := by
  decide

/-! ## SEND, INIT, SHUTDOWN -/

/-- 95_test_vectors.md 3.2, first and third rows. -/
theorem test_send : log (exec (.send 0xFD [0x12]) fresh) = some [([0x7E, 0xC4, 0x80], .ok)] := by decide
theorem test_send_alloc_fails : (after (exec (.send 0xFD [0x12]) (idle [] [false]))).map (fun s => (s.returned, s.tlog)) =
    some ([.allocationError], []) := by decide
theorem test_transportSend : (after (exec (.transportSend [0x57, 0x00]) (idle [.error ⟨3⟩] []))).map
    (fun s => (s.returned, s.tlog)) = some ([.transportError ⟨3⟩], [([0x57, 0x00], .error ⟨3⟩)]) := by decide
/-- Program P2's INIT (95_test_vectors.md 5.3). -/
theorem test_init : (after (exec .init fresh)).map (fun s => (s.seq, s.tlog)) =
    some (.ready, [([0x57, 0x80], .ok), ([0x7E, 0xC4, 0x80], .ok), ([0x57, 0x80], .ok)]) := by decide
/-- Program P3's first INIT (95_test_vectors.md 5.4). -/
theorem test_init_fails : (after (exec .init (idle [.ok, .error ⟨1⟩] [true, true]))).map
    (fun s => (s.seq, s.returned, s.tlog)) =
    some (.failed, [.transportError ⟨1⟩], [([0x57, 0x80], .ok), ([0x7E, 0xC4, 0x80], .error ⟨1⟩)]) := by decide
theorem test_shutdown : (after (exec .shutdown (ready [] [] []))).map (fun s => (s.seq, s.returned, s.tlog)) =
    some (.ready, [.ok], []) := by decide

/-! ## The DisplayUpdater -/

/-- The window frames with the default configuration (95_test_vectors.md 3.1). -/
theorem test_setColWin : log (exec .setColWin { fresh with cfg := Config.default }) =
    some [([0x0A, 0xC7, 0x2B, 0x60], .ok)] := by decide
theorem test_setRowWin : log (exec .setRowWin { fresh with cfg := Config.default }) =
    some [([0x3A, 0xC0, 0x27, 0xE0], .ok)] := by decide
/-- The image of M1 (95_test_vectors.md 5.1). -/
theorem test_reformat :
    (after (exec .reformat (ready [] [] [0x01, 0x23, 0x45, 0x67, 0x89, 0xAB, 0xCD, 0xEF]))).bind (·.pi) =
      some [0x00, 0x11, 0x22, 0x33, 0x44, 0x55, 0x66, 0x77, 0x88, 0x99, 0xAA, 0xBB, 0xCC, 0xDD, 0xEE, 0xFF] := by
  decide
/-- The stride check M4 (95_test_vectors.md 5.1). -/
theorem test_writeRam : log (exec .writeRam (ready [.ok] [true, true] [0, 0, 0, 0, 0xF0])) =
    some [([0x2E, 0x40, 0x20, 0x10, 0x08, 0x04, 0x02, 0x01, 0x00, 0x80, 0x7F, 0xE0, 0x10, 0x08, 0x04, 0x02, 0x01, 0x00,
            0x80, 0x00], .ok)] := by decide +kernel
/-- Program P4, third line (95_test_vectors.md 5.5). -/
theorem test_update_ram_fails :
    (after (exec .update (ready [.ok, .ok, .error ⟨3⟩] [true, true, true, true] [0, 0, 0, 0, 0, 0, 0xAB, 0xCD]))).map
      (fun s => (s.seq, s.returned, s.tlog)) =
    some (.ready, [.transportError ⟨3⟩], [([0x0A, 0xC0, 0x20, 0x20], .ok), ([0x3A, 0xC0, 0x20, 0x20], .ok),
      ([0x2E, 0x40, 0x20, 0x10, 0x08, 0x04, 0x02, 0x01, 0x00, 0x80, 0x40, 0x20, 0x10, 0x08, 0x06, 0xAB, 0x77, 0xCC, 0xEE,
        0x80], .error ⟨3⟩)]) := by decide +kernel
/-- 95_test_vectors.md 2.7. -/
theorem test_update_not_ready : refusal (exec .update fresh) = some .notReady := by decide

/-! ## The PixelBuffer port -/

/-- 95_test_vectors.md 2.6, at the real geometry. -/
theorem test_pbRead : results (exec (.pbRead 4090 16) State.reset) = some [.okBytes [0, 0, 0, 0, 0, 0]] := by decide
theorem test_pbRead_at_end : results (exec (.pbRead 4096 16) State.reset) = some [.okBytes []] := by decide
theorem test_pbWrite : (after (exec (.pbWrite 4094 [0x12, 0x34, 0x56, 0x78]) State.reset)).map
    (fun s => (s.returned, s.pb)) = some ([.okCount 2], [(4094, 0x12), (4095, 0x34)]) := by decide +kernel
theorem test_pbWrite_beyond : (after (exec (.pbWrite 4097 [0xFF]) State.reset)).map (fun s => (s.returned, s.pb)) =
    some ([.offsetRejected], []) := by decide
theorem test_chkGray : results (exec (.chkGray 15) fresh) = some [.ok] ∧
    results (exec (.chkGray 16) fresh) = some [.rangeError] := by decide
/-- Program P5, the last two lines (95_test_vectors.md 5.6). -/
theorem test_hostWrite_rejected : (after (exec (.hostWrite 9 [0xFF]) (ready [] [] []))).map (fun s => (s.returned, s.tlog)) =
    some ([.offsetRejected], []) := by decide
theorem test_hostWrite :
    (after (exec (.hostWrite 0 [0xA5, 0x5A])
      (ready [.ok, .ok, .ok] [true, true, true, true] [0, 0, 0, 0, 0, 0, 0x12, 0x34]))).map
      (fun s => (s.returned, s.tlog.map (·.1))) =
    some ([.okCount 2, .ok], [[0x0A, 0xC0, 0x20, 0x20], [0x3A, 0xC0, 0x20, 0x20],
      [0x2E, 0x6A, 0xAA, 0xB5, 0x5D, 0x54, 0x02, 0x01, 0x00, 0x80, 0x40, 0x20, 0x10, 0x08, 0x04, 0x46, 0x45, 0x33, 0xA2,
       0x00]]) := by decide +kernel
theorem test_reserved : exec (.reservedHop 0) fresh = .refused .reservedOp := rfl

/-- The result codes of R160's table. -/
theorem test_result_codes :
    [Result.ok, .transportError ⟨9⟩, .allocationError, .rangeError, .offsetRejected].map Result.code = [0, 1, 2, 3, 4] := rfl

/-! ## Steps -/

/-- UPDATE seen one event at a time, in U_Build. -/
def building : State :=
  { ready [.ok] [true, true] [0xAB] with op := 3#4, busy := true, uph := .build, sched := [.block, .host] }

theorem test_withFetchWord_request :
    (after (step (State.reset.withFetchWord 8 0b0111))).map (·.returned) = some [.ok] := by decide
theorem test_withFetchWord_unit :
    frame (step (State.reset.withFetchWord 16 0b010101110)) = some (some [0x57, 0x00], 9) := by decide
/-- The build event fills `PI` and enters U_Write (R125). -/
theorem test_build_event : (after (step building)).map (fun s => (s.uph, s.pi.map (·.take 3))) =
    some (.write, some [0xAA, 0xBB, 0x00]) := by decide
/-- A PB_WRITE overlapping U_Build is admitted and keeps what it replaces (R55, 95_test_vectors.md 5.7). -/
theorem test_overlapping_write :
    (after (exec (.pbWrite 0 [0x00]) building)).map (fun s => (s.returned, decide (s.pb = [] ∧ s.pbOld = [[(0, 0xAB)]]), s.busy)) =
      some ([.okCount 1], true, true) := by decide
theorem test_reset_memory_wf : Memory.wf State.reset.pb = true := rfl

/-! ## Witnesses: states and operands that meet the hypotheses of each statement, clause by clause -/

theorem quiet_fresh : Quiet fresh := ⟨rfl, rfl, rfl, rfl, rfl, rfl, nofun⟩

theorem quiet_ready (a : List Answer) (l : List Bool) (p : List Byte) : Quiet (ready a l p) :=
  ⟨rfl, rfl, rfl, rfl, rfl, rfl, nofun⟩

/-- The last bit of a frame is still inside it. -/
theorem witness_WriteBit : (packing [0, 0, 0] 23).wf = some [0, 0, 0] ∧ (packing [0, 0, 0] 23).cursor < 8 * 3 := by decide
theorem witness_WriteByte : (packing [0, 0, 0] 16).wf = some [0, 0, 0] ∧ (packing [0, 0, 0] 16).cursor + 8 ≤ 8 * 3 := by
  decide
theorem witness_Units : (packing [0, 0, 0] 15).wf = some [0, 0, 0] ∧ (packing [0, 0, 0] 15).cursor + 9 ≤ 8 * 3 := by decide
theorem witness_CommandSymbols : Instr.opcWriteRam.command? = some .writeRam ∧ (packing [0, 0] 7).wf = some [0, 0] ∧
    (packing [0, 0] 7).cursor + 9 ≤ 8 * 2 := by decide
/-- No frame; and cursors at which one, eight and nine bits first fail to fit. -/
theorem witness_PackingStops : (unitOf cfgTest (.cmdu 0xAE)).isSome = true ∧ (unitOf cfgTest (.datu 0x12)).isSome = true ∧
    (unitOf cfgTest .opcDisplayOn).isSome = true ∧ fresh.wf = none ∧ (packing [0, 0] 16).wf = some [0, 0] ∧
    8 * 2 ≤ (packing [0, 0] 16).cursor ∧ 8 * 2 < (packing [0, 0] 9).cursor + 8 ∧ 8 * 2 < (packing [0, 0] 8).cursor + 9 := by
  decide
/-- The last bit of the last data unit, and the first pad position. -/
theorem witness_WireFrameLayout : 1 < [(0x1C : Byte), 0x5B].length ∧ 8 < 9 ∧ 9 * (1 + [(0x1C : Byte), 0x5B].length) ≤ 27 := by
  decide
theorem witness_ExtendingAPayload : 26 < 9 * (1 + [(0x1C : Byte), 0x5B].length) := by decide
theorem witness_DecodeInvertsEncode : isFrame [0x57, 0x00] = true ∧ isFrame [0x0A, 0xC7, 0x2B, 0x60] = true := by decide
theorem witness_Encode : Admits fresh ∧ HostWaits fresh ∧ (List.replicate 16 (0 : Byte)).length ≤ fresh.cfg.lMax :=
  ⟨⟨rfl, rfl⟩, rfl, by decide⟩
theorem witness_Overlong : Admits fresh ∧ fresh.cfg.lMax < (List.replicate 17 (0 : Byte)).length := ⟨⟨rfl, rfl⟩, by decide⟩
/-- One frame for each refusal, and none of them meets two clauses. -/
theorem witness_DecodeRefuses :
    ([] : List Byte).length < 2 ∧ (List.replicate 10 (0 : Byte)).length % 9 = 1 ∧
    (2 ≤ [(0x80 : Byte), 0x00].length ∧ [(0x80 : Byte), 0x00].length % 9 ≠ 1 ∧ streamBit [0x80, 0x00] 0 = true) ∧
    (2 ≤ [(0x0A : Byte), 0xC7, 0x0B, 0x60].length ∧ [(0x0A : Byte), 0xC7, 0x0B, 0x60].length % 9 ≠ 1) ∧
    (streamBit [0x0A, 0xC7, 0x0B, 0x60] 0 = false ∧
      ∃ k, 1 ≤ k ∧ k < 8 * 4 / 9 ∧ streamBit [0x0A, 0xC7, 0x0B, 0x60] (9 * k) = false) ∧
    (streamBit [0x0A, 0xC7, 0x2B, 0x61] 0 = false ∧
      (∀ k, 1 ≤ k → k < 8 * 4 / 9 → streamBit [0x0A, 0xC7, 0x2B, 0x61] (9 * k) = true) ∧
      ∃ p, 9 * (8 * 4 / 9) ≤ p ∧ p < 8 * 4 ∧ streamBit [0x0A, 0xC7, 0x2B, 0x61] p = true) := by
  refine ⟨by decide, by decide, by decide, by decide, ⟨by decide, 2, by decide⟩, by decide, fun k h1 h2 => ?_, 31, by decide⟩
  have : k = 1 ∨ k = 2 := by omega
  rcases this with rfl | rfl <;> decide
theorem witness_Send : Admits fresh ∧ HostWaits fresh ∧ [(0x12 : Byte)].length ≤ fresh.cfg.lMax ∧
    fresh.allocAnswer (encodeFrame 0xFD [0x12]).length = true ∧
    (idle [] [false]).allocAnswer (encodeFrame 0xFD [0x12]).length = false := ⟨⟨rfl, rfl⟩, rfl, by decide, rfl, rfl⟩

theorem initSucceeds : SendsSucceed cfgTest.initTable fresh := ⟨by decide, by decide, by decide, trivial⟩

theorem witness_InitSendsTheWholeTable : Admits fresh ∧ HostWaits fresh ∧ fresh.cfg.initFits = true ∧
    SendsSucceed fresh.cfg.initTable fresh := ⟨⟨rfl, rfl⟩, rfl, by decide, initSucceeds⟩
theorem witness_InitStops_transport :
    let s := idle [.ok, .error ⟨1⟩] [true, true]
    Admits s ∧ HostWaits s ∧ s.cfg.initFits = true ∧ s.cfg.initTable = [(0xAF, [])] ++ (0xFD, [0x12]) :: [(0xAF, [])] ∧
      SendsSucceed [(0xAF, [])] s ∧ (afterSends [(0xAF, [])] s).allocAnswer (SendArgs.frame (0xFD, [0x12])).length = true ∧
      (afterSends [(0xAF, [])] s).transportAnswer (SendArgs.frame (0xFD, [0x12])) = .error ⟨1⟩ :=
  ⟨⟨rfl, rfl⟩, rfl, by decide, rfl, ⟨by decide, trivial⟩, by decide, by decide⟩
theorem witness_InitStops_alloc :
    let s := idle [.ok] [true, false]
    Admits s ∧ HostWaits s ∧ s.cfg.initFits = true ∧ s.cfg.initTable = [(0xAF, [])] ++ (0xFD, [0x12]) :: [(0xAF, [])] ∧
      SendsSucceed [(0xAF, [])] s ∧ (afterSends [(0xAF, [])] s).allocAnswer (SendArgs.frame (0xFD, [0x12])).length = false :=
  ⟨⟨rfl, rfl⟩, rfl, by decide, rfl, ⟨by decide, trivial⟩, by decide⟩
theorem witness_InitEnds : Admits fresh ∧ HostWaits fresh ∧ Quiet fresh ∧ fresh.cfg.initFits = true :=
  ⟨⟨rfl, rfl⟩, rfl, quiet_fresh, by decide⟩

/-- INIT with the whole frame of entry `i` packed and the transport about to answer `a`. -/
def initSending (i : Nat) (cmd : Byte) (payload : List Byte) (a : Answer) : State :=
  { idle [a] [] with
    op := 2#4, busy := true, seq := .sending i, cmd := cmd, payload := payload
    wf := some (encodeFrame cmd payload), cursor := 9 * (1 + payload.length) }

theorem packed_eq (cmd : Byte) (payload : List Byte) :
    (⟨encodeFrame cmd payload, 9 * (1 + payload.length)⟩ : Writer) = encodeWriter cmd payload := by
  rw [← encodeWriter_cursor cmd payload]; rfl

theorem inv_initSending {i : Nat} (hi : i < 3) (cmd : Byte) (payload : List Byte) (a : Answer) :
    Inv (initSending i cmd payload a) where
  pb := ⟨rfl, nofun⟩
  pbOld := nofun
  quiet := nofun
  valid _ := (by decide : cfgTest.valid = true)
  updating h := absurd rfl h
  sending j hj := by cases hj; exact ⟨rfl, hi, rfl⟩
  sole _ _ h := absurd rfl (h i)
  image := ⟨nofun, nofun⟩
  imageOk := nofun
  racing h := absurd rfl h
  noFrame := nofun
  waiting := nofun
  packing F h := by
    cases h
    exact ⟨nofun, packed_eq cmd payload⟩

/-- A send of INIT that is not the last, the last one, and one the transport fails. -/
theorem witness_InitMoves :
    (Inv (initSending 0 0xAF [] .ok) ∧ 0 + 1 < cfgTest.nInit) ∧ (Inv (initSending 2 0xAF [] .ok) ∧ 2 + 1 = cfgTest.nInit) ∧
    Inv (initSending 1 0xFD [0x12] (.error ⟨1⟩)) ∧
    (initSending 1 0xFD [0x12] (.error ⟨1⟩)).wf = some [0x7E, 0xC4, 0x80] ∧
    (initSending 1 0xFD [0x12] (.error ⟨1⟩)).issue = [] ∧
    (initSending 1 0xFD [0x12] (.error ⟨1⟩)).transportAnswer [0x7E, 0xC4, 0x80] = .error ⟨1⟩ :=
  ⟨⟨inv_initSending (by decide) _ _ _, by decide⟩, ⟨inv_initSending (by decide) _ _ _, by decide⟩,
    inv_initSending (by decide) _ _ _, by decide, rfl, rfl⟩

/-- INIT about to obtain the WireFrame of entry 1, with the outcome fixed. -/
def initAcquiring (obtained : Bool) : State :=
  { idle [.ok] [obtained] with op := 2#4, busy := true, seq := .sending 1 }

theorem inv_initAcquiring (obtained : Bool) : Inv (initAcquiring obtained) where
  pb := ⟨rfl, nofun⟩
  pbOld := nofun
  quiet := nofun
  valid _ := (by decide : cfgTest.valid = true)
  updating h := absurd rfl h
  sending j hj := by cases hj; exact ⟨rfl, (by decide : 1 < 3), rfl⟩
  sole _ _ h := absurd rfl (h 1)
  image := ⟨nofun, nofun⟩
  imageOk := nofun
  racing h := absurd rfl h
  noFrame := nofun
  waiting _ := rfl
  packing := nofun

theorem witness_InitMoves_acquire :
    Inv (initAcquiring true) ∧ (initAcquiring true).allocAnswer (encodeFrame 0xFD [0x12]).length = true ∧
    Inv (initAcquiring false) ∧ (initAcquiring false).allocAnswer (encodeFrame 0xFD [0x12]).length = false ∧
    (initAcquiring false).wf = none ∧ (initAcquiring false).cfg.initTable[1]? = some (0xFD, [0x12]) :=
  ⟨inv_initAcquiring _, rfl, inv_initAcquiring _, rfl, rfl, rfl⟩

theorem witness_Shutdown_ChkGray : Admits fresh := ⟨rfl, rfl⟩
theorem witness_Windows : 2 ≤ fresh.cfg.lMax ∧ fresh.allocAnswer 4 = true ∧ (idle [] [false]).allocAnswer 4 = false := by
  decide
theorem witness_NibbleDuplication : pixelPair 0xAB = [0xAA, 0xBB] ∧ (0xAA : Byte) ∈ pixelPair 0xAB := by decide
theorem witness_Reformat : fresh.cfg.valid = true ∧ fresh.pbOld = [] ∧ 7 < fresh.cfg.pbSize := by decide
theorem witness_PanelImagePixelAt : cfgTest.valid = true ∧ 7 < cfgTest.width ∧ 1 < cfgTest.height := by decide
/-- The two configurations differ in their tables. -/
theorem witness_PanelImageDependsOnly :
    let t : State := { ready [] [] [] with cfg := { Config.default with width := 8, height := 2 } }
    fresh.cfg ≠ t.cfg ∧ fresh.cfg.width = t.cfg.width ∧ fresh.cfg.height = t.cfg.height ∧ fresh.pbOld = [] ∧ t.pbOld = [] ∧
    ∀ i, i < fresh.cfg.pbSize → fresh.pb.read i = t.pb.read i := ⟨by decide, rfl, rfl, rfl, rfl, fun _ _ => rfl⟩
theorem witness_WriteRam : fresh.cfg.piSize ≤ fresh.cfg.lMax ∧ fresh.pbOld = [] ∧
    (idle [] [false]).allocAnswer cfgTest.piSize = false ∧ fresh.allocAnswer cfgTest.piSize = true ∧
    (idle [] [true, false]).afterAlloc.allocAnswer (ramSend (idle [] [true, false])).frame.length = false ∧
    fresh.afterAlloc.allocAnswer (ramSend fresh).frame.length = true := by decide

/-- `SEQ = Ready` and every draw good. -/
def good : State := ready (List.replicate 3 .ok) (List.replicate 4 true) [0x01, 0x23]

theorem witness_UpdateSends : Admits good ∧ HostWaits good ∧ Quiet good ∧ good.seq = .ready ∧ good.cfg.updateFits = true ∧
    SendsSucceed [columnSend good.cfg, rowSend good.cfg] good ∧
    (afterSends [columnSend good.cfg, rowSend good.cfg] good).allocAnswer good.cfg.piSize = true ∧
    SendsSucceed [ramSend good] (afterSends [columnSend good.cfg, rowSend good.cfg] good).afterAlloc :=
  ⟨⟨rfl, rfl⟩, rfl, quiet_ready _ _ _, rfl, by decide, ⟨by decide, by decide, trivial⟩, by decide, ⟨by decide +kernel, trivial⟩⟩

/-- What every clause of UpdateErrorExits asks for. -/
def UpdateRuns (s : State) : Prop := Admits s ∧ HostWaits s ∧ Quiet s ∧ s.seq = .ready ∧ s.cfg.updateFits = true

theorem updateRuns_ready (a : List Answer) (l : List Bool) (p : List Byte) : UpdateRuns (ready a l p) :=
  ⟨⟨(by decide : cfgTest.valid = true), rfl⟩, rfl, quiet_ready a l p, rfl, (by decide : cfgTest.updateFits = true)⟩

/-- The four rows of R126 in which a buffer is not obtained. -/
theorem witness_UpdateErrorExits_alloc :
    UpdateRuns (ready [] [false] []) ∧ (ready [] [false] []).allocAnswer (columnSend cfgTest).frame.length = false ∧
    (let s := ready [.ok] [true, false] []
     UpdateRuns s ∧ SendsSucceed [columnSend s.cfg] s ∧ (afterSends [columnSend s.cfg] s).allocAnswer (rowSend s.cfg).frame.length = false) ∧
    (let s := ready [.ok, .ok] [true, true, false] []
     UpdateRuns s ∧ SendsSucceed [columnSend s.cfg, rowSend s.cfg] s ∧
       (afterSends [columnSend s.cfg, rowSend s.cfg] s).allocAnswer s.cfg.piSize = false) ∧
    (let s := ready [.ok, .ok] [true, true, true, false] []
     UpdateRuns s ∧ SendsSucceed [columnSend s.cfg, rowSend s.cfg] s ∧
       (afterSends [columnSend s.cfg, rowSend s.cfg] s).allocAnswer s.cfg.piSize = true ∧
       (afterSends [columnSend s.cfg, rowSend s.cfg] s).afterAlloc.allocAnswer (ramSend s).frame.length = false) :=
  ⟨updateRuns_ready _ _ _, rfl, ⟨updateRuns_ready _ _ _, ⟨by decide, trivial⟩, by decide⟩, ⟨updateRuns_ready _ _ _, ⟨by decide, by decide, trivial⟩, by decide⟩,
    updateRuns_ready _ _ _, ⟨by decide, by decide, trivial⟩, by decide, by decide⟩

/-- The three rows of R126 in which the transport fails. -/
theorem witness_UpdateErrorExits_transport :
    UpdateRuns (ready [.error ⟨2⟩] [true] []) ∧
    (ready [.error ⟨2⟩] [true] []).allocAnswer (columnSend cfgTest).frame.length = true ∧
    (ready [.error ⟨2⟩] [true] []).transportAnswer (columnSend cfgTest).frame = .error ⟨2⟩ ∧
    (let s := ready [.ok, .error ⟨2⟩] [true, true] []
     UpdateRuns s ∧ SendsSucceed [columnSend s.cfg] s ∧ (afterSends [columnSend s.cfg] s).allocAnswer (rowSend s.cfg).frame.length = true ∧
       (afterSends [columnSend s.cfg] s).transportAnswer (rowSend s.cfg).frame = .error ⟨2⟩) ∧
    (let s := ready [.ok, .ok, .error ⟨3⟩] [true, true, true, true] []
     UpdateRuns s ∧ SendsSucceed [columnSend s.cfg, rowSend s.cfg] s ∧
       (afterSends [columnSend s.cfg, rowSend s.cfg] s).allocAnswer s.cfg.piSize = true ∧
       (afterSends [columnSend s.cfg, rowSend s.cfg] s).afterAlloc.allocAnswer (ramSend s).frame.length = true ∧
       (afterSends [columnSend s.cfg, rowSend s.cfg] s).transportAnswer (ramSend s).frame = .error ⟨3⟩) :=
  ⟨updateRuns_ready _ _ _, rfl, rfl, ⟨updateRuns_ready _ _ _, ⟨by decide, trivial⟩, by decide, by decide⟩, updateRuns_ready _ _ _, ⟨by decide, by decide, trivial⟩, by decide, by decide, by decide⟩

theorem witness_UpdateIsRefused : Admits fresh ∧ fresh.seq ≠ .ready ∧ 8 ≤ fresh.cfg.pbSize := ⟨⟨rfl, rfl⟩, nofun, by decide⟩
theorem witness_UpdateFrameSizes : State.reset.cfg.width = 128 ∧ State.reset.cfg.height = 64 := ⟨rfl, rfl⟩
/-- The last byte, and the first offset that is not one. -/
theorem witness_PbRead : Admits fresh ∧ 7 < fresh.cfg.pbSize ∧ 8 ≥ fresh.cfg.pbSize := ⟨⟨rfl, rfl⟩, by decide, by decide⟩
theorem witness_PbWrite : Admits good ∧ Quiet good ∧ good.pb.wf = true ∧ 8 ≤ good.cfg.pbSize ∧ 9 > good.cfg.pbSize :=
  ⟨⟨rfl, rfl⟩, quiet_ready _ _ _, by decide, by decide, by decide⟩
theorem witness_PbWriteMayOverlap : building.cfg.valid = true ∧ building.busy = true ∧ building.uph ≠ .none ∧
    8 ≤ building.cfg.pbSize ∧ 9 > building.cfg.pbSize := by decide
theorem witness_Racing : building.cfg.valid = true ∧ 7 < building.cfg.pbSize := by decide
theorem witness_HostWrite : Admits good ∧ 9 > good.cfg.pbSize ∧ 8 ≤ good.cfg.pbSize ∧ HostWaits good ∧ Quiet good ∧
    good.seq = .ready ∧ good.cfg.updateFits = true :=
  ⟨⟨rfl, rfl⟩, by decide, by decide, rfl, quiet_ready _ _ _, rfl, by decide⟩
theorem witness_Reserved : 8 ≤ ({ op := 8 } : HostReq).op.toNat ∧ 8 ≤ ({ op := 15 } : HostReq).op.toNat := by decide
theorem witness_Busy :
    ({ op := 7 } : HostReq).op.toNat < 8 ∧ ({ State.reset with cfg := { cfgTest with width := 7 } } : State).cfg.valid = false ∧
    building.cfg.valid = true ∧ building.busy = true ∧ ({ op := 3 } : HostReq).op.toNat ≠ 5 ∧
    (initSending 0 0xAF [] .ok).busy = true ∧ (initSending 0 0xAF [] .ok).uph = .none := by decide

/-- An UPDATE in U_Col with the column frame's units still to be packed. -/
def columnPacking : State :=
  { ready [.ok] [true] [] with
    op := 3#4, busy := true, uph := .col, sched := [.block, .host], cmd := 0x15, payload := [0x00, 0x01]
    wf := some [0, 0, 0, 0], issue := [.opcSetColumn, .datu 0x00, .datu 0x01], port := [{ op := 5, payload := [0xAB] }] }

theorem inv_columnPacking : Inv columnPacking where
  pb := ⟨rfl, nofun⟩
  pbOld := nofun
  quiet := nofun
  valid _ := rfl
  updating _ := ⟨rfl, rfl, rfl⟩
  sending := nofun
  sole _ := nofun
  image := ⟨nofun, nofun⟩
  imageOk := nofun
  racing h := absurd rfl h
  noFrame := nofun
  waiting := nofun
  packing F h := by cases h; exact ⟨by decide, by decide⟩

theorem witness_StepRuns :
    (∃ s : State, s.busy = false ∧ s.port = [{ op := 7 }]) ∧ (fresh.busy = false ∧ fresh.port = []) ∧
    (∃ s : State, s.busy = true ∧ s.sched = [.host] ∧ s.port = [{ op := 5, payload := [0xAB] }]) ∧
    (columnPacking.busy = true ∧ columnPacking.sched = .block :: [.host] ∧
      columnPacking.issue = .opcSetColumn :: [.datu 0x00, .datu 0x01]) ∧
    ∃ s : State, s.busy = true ∧ s.sched = [] ∧ s.issue = [.datu 0x00] :=
  ⟨⟨{ fresh with port := [{ op := 7 }] }, rfl, rfl⟩, ⟨rfl, rfl⟩, ⟨{ columnPacking with sched := [.host] }, rfl, rfl, rfl⟩,
    ⟨rfl, rfl, rfl⟩, ⟨{ columnPacking with sched := [], issue := [.datu 0x00] }, rfl, rfl, rfl⟩⟩

theorem witness_StepKeeps : Inv columnPacking ∧ ∃ t, step columnPacking = .next t :=
  ⟨inv_columnPacking, exists_next (by decide)⟩
theorem witness_StepLogs :
    let s := { initSending 1 0xFD [0x12] .ok with tlog := [([0x57, 0x80], .ok)] }
    Inv s ∧ LogOk s ∧ ∃ t, step s = .next t := by
  refine ⟨?_, ?_, exists_next (by decide)⟩
  · obtain ⟨a1, a2, a3, a4, a5, a6, a7, a8, a9, a10, a11, a12, a13⟩ := inv_initSending (i := 1) (by decide) 0xFD [0x12] .ok
    exact ⟨a1, a2, nofun, a4, a5, a6, a7, a8, a9, a10, a11, a12, a13⟩
  · intro e he
    cases he with
    | head => decide
    | tail _ h => cases h
theorem witness_frames : .update ≠ Instr.init ∧ (∀ v, .update ≠ Instr.chkGray v) ∧
    (∀ off data, .update ≠ Instr.pbWrite off data) ∧ (∀ off data, .update ≠ Instr.hostWrite off data) ∧
    ∃ t, exec .update good = .next t :=
  ⟨nofun, nofun, nofun, nofun, exists_next (by decide +kernel)⟩
/-- The block's turn inside an UPDATE, with a PB_WRITE waiting on the port. -/
theorem witness_OnlyInit_OnlyHostWrites_step : Inv columnPacking ∧ (∃ t, step columnPacking = .next t) ∧
    (columnPacking.busy = true → columnPacking.op ≠ 2#4) ∧
    (∀ q rest, columnPacking.busy = false → columnPacking.port = q :: rest → decodeHost q ≠ .init) ∧
    (∀ i, columnPacking.seq ≠ .sending i) ∧ ¬HostsTurn columnPacking :=
  ⟨inv_columnPacking, exists_next (by decide), fun _ => by decide, nofun, nofun, by rintro (h | ⟨_, h⟩) <;> cases h⟩
theorem witness_NoBuffer : Inv good ∧ good.busy = false ∧ .update = decodeHost { op := 3 } ∧
    ∃ t, exec .update good = .next t ∧ t.busy = false := by
  refine ⟨inv_of_quiet (quiet_ready _ _ _) ⟨by decide, by decide⟩, rfl, rfl, ?_⟩
  obtain ⟨t, h⟩ := exists_next (r := exec .update good) (by decide +kernel)
  have hb : (after (exec .update good)).map (·.busy) = some false := by decide +kernel
  rw [h] at hb
  exact ⟨t, h, by simpa [after] using hb⟩
theorem witness_Events : Quiet { good with port := [{ op := 3 }] } ∧ HostWaits { good with port := [{ op := 3 }] } ∧
    ∃ t, step { good with port := [{ op := 3 }] } = .next t :=
  ⟨⟨rfl, rfl, rfl, rfl, rfl, rfl, nofun⟩, rfl, exists_next (by decide +kernel)⟩
theorem witness_Scheduled : Admits { good with sched := [.block] } ∧ ({ good with sched := [.block] } : State).sched ≠ [] ∧
    good.cfg.initFits = true ∧ 0 < good.cfg.nInit ∧ good.seq = .ready ∧ good.cfg.updateFits = true :=
  ⟨⟨rfl, rfl⟩, nofun, by decide, by decide, rfl, by decide⟩
/-- The phases of an UPDATE about to obtain a buffer, with the outcome fixed. -/
def phaseAcquiring (u : Phase) (obtained : Bool) : State :=
  { ready [.ok] [obtained] [] with op := 3#4, busy := true, uph := u }

theorem inv_phaseAcquiring {u : Phase} (hn : u ≠ .none) (hw : u ≠ .write) (obtained : Bool) :
    Inv (phaseAcquiring u obtained) where
  pb := ⟨rfl, nofun⟩
  pbOld := nofun
  quiet := nofun
  valid _ := (by decide : cfgTest.valid = true)
  updating _ := ⟨rfl, rfl, rfl⟩
  sending := nofun
  sole _ h := absurd h hn
  image := ⟨nofun, fun h => absurd h hw⟩
  imageOk := nofun
  racing h := absurd rfl h
  noFrame _ := rfl
  waiting _ := rfl
  packing := nofun

def zeroImage : List Byte := List.replicate 16 0

/-- An UPDATE with a zero image, its frame packed if `packed`, about to make its RAM-write send. -/
def writing (packed : Bool) (a : Answer) : State :=
  { ready [a] [true] [] with
    op := 3#4, busy := true, uph := .write, pi := some zeroImage, cmd := 0x5C
    payload := zeroImage, cursor := 9 * (1 + zeroImage.length)
    wf := if packed then some (encodeFrame 0x5C zeroImage) else none }

theorem inv_writing (packed : Bool) (a : Answer) : Inv (writing packed a) where
  pb := ⟨rfl, nofun⟩
  pbOld := nofun
  quiet := nofun
  valid _ := (by decide : cfgTest.valid = true)
  updating _ := ⟨rfl, rfl, rfl⟩
  sending := nofun
  sole _ := nofun
  image := ⟨fun _ => rfl, fun _ => rfl⟩
  imageOk image h := by
    cases h
    exact ⟨(by decide : zeroImage.length = cfgTest.piSize), fun b hb => ⟨0, by rw [List.eq_of_mem_replicate hb]; decide⟩⟩
  racing h := absurd rfl h
  noFrame := nofun
  waiting _ := rfl
  packing F h := by
    cases packed with
    | false => cases h
    | true =>
      obtain rfl : encodeFrame 0x5C zeroImage = F := Option.some.inj h
      exact ⟨nofun, packed_eq 0x5C zeroImage⟩

/-- Units that wait; the frame of the last phase packed, its send answered and failed; `PI` and a WireFrame obtained or
not. -/
theorem witness_UpdatePhases :
    (Inv columnPacking ∧ columnPacking.uph ≠ .none ∧ columnPacking.issue ≠ []) ∧
    (Inv (writing true .ok) ∧ (writing true .ok).issue = [] ∧ (writing true .ok).wf.isSome = true) ∧
    (Inv (writing true (.error ⟨3⟩)) ∧
      (writing true (.error ⟨3⟩)).transportAnswer (encodeFrame 0x5C zeroImage) = .error ⟨3⟩) ∧
    (Inv (writing false .ok) ∧ (writing false .ok).wf = none ∧
      (writing false .ok).allocAnswer (phaseSend (writing false .ok)).frame.length = true) ∧
    (Inv (phaseAcquiring .build true) ∧ (phaseAcquiring .build true).allocAnswer cfgTest.piSize = true) ∧
    (Inv (phaseAcquiring .build false) ∧ (phaseAcquiring .build false).allocAnswer cfgTest.piSize = false) ∧
    Inv (phaseAcquiring .row false) ∧
      (phaseAcquiring .row false).allocAnswer (phaseSend (phaseAcquiring .row false)).frame.length = false :=
  ⟨⟨inv_columnPacking, nofun, nofun⟩, ⟨inv_writing _ _, rfl, rfl⟩, ⟨inv_writing _ _, rfl⟩, ⟨inv_writing _ _, rfl, rfl⟩,
    ⟨inv_phaseAcquiring (by decide) (by decide) _, rfl⟩, ⟨inv_phaseAcquiring (by decide) (by decide) _, rfl⟩,
    inv_phaseAcquiring (by decide) (by decide) _, rfl⟩

end Sys2Proof.Tests
end

section
/-! SUPPORT. What each host operation and each shared operation can do, said once, and the fields they leave alone. -/

namespace Sys2Proof.Machine

/-! ### Admission and the host operations

One inversion lemma per host operation: when it answers a next state, it was admitted, and this is that state. -/

theorem admits_of_admission {s : State} (h : s.admission = none) : Admits s := admission_eq_none.1 h

theorem admission_eq_busy {s : State} (h : s.admission = some .busy) : s.cfg.valid = true ∧ s.busy = true := by
  cases hv : s.cfg.valid
  · simp [admission_badConfig hv] at h
  · cases hb : s.busy
    · simp [admission_eq_none.2 ⟨hv, hb⟩] at h
    · exact ⟨rfl, rfl⟩

theorem execEncode_next {c : Byte} {p : List Byte} {s t : State} (h : execEncode c p s = .next t) :
    Admits s ∧ p.length ≤ s.cfg.lMax ∧
      t = if s.sched.isEmpty then encodeOp c p (s.start 0#4) else (s.start 0#4).latchSend c p := by
  unfold execEncode at h
  split at h
  · cases h
  · next ha =>
    split at h
    · next hl => exact ⟨admits_of_admission ha, hl, (Host.Outcome.next.inj h).symm⟩
    · cases h

theorem execSend_next {c : Byte} {p : List Byte} {s t : State} (h : execSend c p s = .next t) :
    Admits s ∧ p.length ≤ s.cfg.lMax ∧
      t = if s.sched.isEmpty then (sendOp c p (s.start 1#4)).1.finish (sendOp c p (s.start 1#4)).2
        else (s.start 1#4).latchSend c p := by
  unfold execSend at h
  split at h
  · cases h
  · next ha =>
    split at h
    · next hl => exact ⟨admits_of_admission ha, hl, (Host.Outcome.next.inj h).symm⟩
    · cases h

theorem execInit_next {s t : State} (h : execInit s = .next t) :
    Admits s ∧ s.cfg.initFits = true ∧
      t = if s.sched.isEmpty then concludeInit (initFrom 0 s.cfg.initTable (s.start 2#4))
        else initNext 0 (s.start 2#4) := by
  unfold execInit at h
  split at h
  · cases h
  · next ha =>
    split at h
    · next hf => exact ⟨admits_of_admission ha, hf, (Host.Outcome.next.inj h).symm⟩
    · cases h

theorem updateRequest_next {s t : State} (h : updateRequest s = .next t) :
    Admits s ∧ s.seq = .ready ∧ s.cfg.updateFits = true ∧
      t = if s.sched.isEmpty then concludeUpdate (updateOp (s.start 3#4)) else (s.start 3#4).setPhase .col := by
  unfold updateRequest at h
  split at h
  · cases h
  · next ha =>
    split at h
    · next hr =>
      split at h
      · next hf => exact ⟨admits_of_admission ha, hr, hf, (Host.Outcome.next.inj h).symm⟩
      · cases h
    · cases h

theorem execPbRead_next {off cnt : Nat} {s t : State} (h : execPbRead off cnt s = .next t) :
    Admits s ∧ t = ((s.start 4#4).latchPort off cnt).finish (.okBytes (s.readClipped off cnt)) := by
  unfold execPbRead at h
  split at h
  · cases h
  · next ha => exact ⟨admits_of_admission ha, (Host.Outcome.next.inj h).symm⟩

/-- A PB_WRITE that is served is an operation of an idle block, or overlaps an UPDATE (R25, R200). -/
theorem execPbWrite_next {off : Nat} {data : List Byte} {s t : State} (h : execPbWrite off data s = .next t) :
    (Admits s ∧ t = (pbWriteOp off data (s.start 5#4)).1.finish (pbWriteOp off data (s.start 5#4)).2) ∨
    (s.cfg.valid = true ∧ s.busy = true ∧ s.uph ≠ .none ∧
      t = (pbWriteOp off data s).1.deliver (pbWriteOp off data s).2) := by
  unfold execPbWrite at h
  split at h
  · next ha =>
    split at h
    · cases h
    · next hu =>
      obtain ⟨hv, hb⟩ := admission_eq_busy ha
      exact .inr ⟨hv, hb, hu, (Host.Outcome.next.inj h).symm⟩
  · cases h
  · next ha => exact .inl ⟨admits_of_admission ha, (Host.Outcome.next.inj h).symm⟩

/-- A PB_WRITE that overlaps an UPDATE is admitted (R25, R200). -/
theorem execPbWrite_of_updating {off : Nat} {data : List Byte} {s : State} (hv : s.cfg.valid = true)
    (hb : s.busy = true) (hu : s.uph ≠ .none) :
    execPbWrite off data s = .next ((pbWriteOp off data s).1.deliver (pbWriteOp off data s).2) := by
  simp [execPbWrite, admission_busy hv hb, hu]

theorem execChkGray_next {v : Nat} {s t : State} (h : execChkGray v s = .next t) :
    Admits s ∧ t = ((s.start 6#4).latchVal v).finish (greyResult v) := by
  unfold execChkGray at h
  split at h
  · cases h
  · next ha => exact ⟨admits_of_admission ha, (Host.Outcome.next.inj h).symm⟩

theorem execShutdown_next {s t : State} (h : execShutdown s = .next t) :
    Admits s ∧ t = (s.start 7#4).finish .ok := by
  unfold execShutdown at h
  split at h
  · cases h
  · next ha => exact ⟨admits_of_admission ha, (Host.Outcome.next.inj h).symm⟩

/-- HOSTWRITE ends with a rejected write, or goes on to the requested update (R145). -/
theorem execHostWrite_next {off : Nat} {data : List Byte} {s t : State} (h : execHostWrite off data s = .next t) :
    Admits s ∧
      ((pbWriteOp off data (s.start 5#4)).2 = .offsetRejected ∧
          t = (pbWriteOp off data (s.start 5#4)).1.finish .offsetRejected ∨
        (pbWriteOp off data (s.start 5#4)).2 ≠ .offsetRejected ∧
          updateRequest ((pbWriteOp off data (s.start 5#4)).1.finish (pbWriteOp off data (s.start 5#4)).2) =
            .next t) := by
  unfold execHostWrite at h
  split at h
  · cases h
  · next ha =>
    refine ⟨admits_of_admission ha, ?_⟩
    split at h
    · next hw => rw [hw]; exact .inl ⟨rfl, (Host.Outcome.next.inj h).symm⟩
    · next hr hw => rw [hw]; exact .inr ⟨hr, h⟩

/-! ### What the display operations and the loop of INIT are made of -/

/-- WRITERAM ends without a PanelImage, or makes one send with one; `PI` is released either way (R123). -/
theorem writeRamOp_cases (s : State) :
    writeRamOp s = ((s.setPhase .build).afterAlloc.releaseImage.setPhase .none, .allocationError) ∨
    ∃ image, writeRamOp s =
      ((sendOp (s.cfg.opcode .writeRam) image
        (((s.setPhase .build).afterAlloc.putImage image).setPhase .write)).1.releaseImage,
       (sendOp (s.cfg.opcode .writeRam) image
        (((s.setPhase .build).afterAlloc.putImage image).setPhase .write)).2) := by
  cases ha : s.allocAnswer s.cfg.piSize
  · exact .inl (writeRamOp_of_allocFails ha)
  · refine .inr ⟨(s.setPhase .build).reformatted, ?_⟩
    rw [writeRamOp, buildOp_of_allocOk (by simpa using ha)]
    rfl

/-- The state UPDATE's sends leave is that of the first, of the second, or of the RAM write (R124). -/
theorem updateOp_cases (s : State) :
    (updateOp s).1 = (setColWinOp (s.setPhase .col)).1 ∨
    (updateOp s).1 = (setRowWinOp ((setColWinOp (s.setPhase .col)).1.setPhase .row)).1 ∨
    (updateOp s).1 = (writeRamOp (setRowWinOp ((setColWinOp (s.setPhase .col)).1.setPhase .row)).1).1 := by
  unfold updateOp
  split
  · next s1 h1 =>
    rw [h1]
    split
    · next s2 h2 => rw [h2]; exact .inr (.inr rfl)
    · exact .inr (.inl rfl)
  · exact .inl rfl

/-- One turn of INIT's loop (R107): the send of entry `i`, and the rest of the table if it succeeds. -/
theorem initFrom_cons (i : Nat) (c : Byte) (p : List Byte) (rest : List (Byte × List Byte)) (s : State) :
    initFrom i ((c, p) :: rest) s =
      if (sendOp c p (s.setSeq (.sending i))).2 = .ok then initFrom (i + 1) rest (sendOp c p (s.setSeq (.sending i))).1
      else sendOp c p (s.setSeq (.sending i)) := by
  rw [initFrom]
  split
  · next h => simp [h]
  · next h => rw [if_neg fun e => h _ (Prod.ext rfl e)]

/-- What every send and every change of `SEQ` keeps, the loop of INIT keeps. -/
theorem initFrom_induct {P : State → Prop} (hseq : ∀ q s, P s → P (s.setSeq q))
    (hsend : ∀ c p s, P s → P (sendOp c p s).1) (table : List (Byte × List Byte)) :
    ∀ i s, P s → P (initFrom i table s).1 := by
  induction table with
  | nil => exact fun i s h => hseq _ _ h
  | cons e rest ih =>
    obtain ⟨c, p⟩ := e
    intro i s h
    have hs := hsend c p _ (hseq (.sending i) _ h)
    rw [initFrom_cons]
    split_ifs
    · exact ih _ _ hs
    · exact hs

/-- A loop of INIT that succeeds leaves `SEQ` in Ready (R107). -/
theorem initFrom_seq_of_ok (table : List (Byte × List Byte)) :
    ∀ i s, (initFrom i table s).2 = .ok → (initFrom i table s).1.seq = .ready := by
  induction table with
  | nil => exact fun _ _ _ => rfl
  | cons e rest ih =>
    obtain ⟨c, p⟩ := e
    intro i s
    rw [initFrom_cons]
    split_ifs with hs
    · exact ih _ _
    · exact fun h => absurd h hs

theorem concludeInit_ok {r : State × Result} (h : r.2 = .ok) : concludeInit r = r.1.finish .ok := by
  simp [concludeInit, h]

theorem concludeInit_error {r : State × Result} (h : r.2 ≠ .ok) : concludeInit r = r.1.raise r.2 := by
  unfold concludeInit; split <;> simp_all

theorem concludeUpdate_ok {r : State × Result} (h : r.2 = .ok) :
    concludeUpdate r = (r.1.setPhase .none).finish .ok := by
  simp [concludeUpdate, h]

theorem concludeUpdate_error {r : State × Result} (h : r.2 ≠ .ok) : concludeUpdate r = r.1.raise r.2 := by
  unfold concludeUpdate; split <;> simp_all

/-! ### `PB`, the constants and, but for INIT, `SEQ` are left alone (R46, R26, R108) -/

@[simp] theorem writeRamOp_pb (s : State) : (writeRamOp s).1.pb = s.pb := by
  rcases writeRamOp_cases s with h | ⟨_, h⟩ <;> simp [h]

@[simp] theorem writeRamOp_cfg (s : State) : (writeRamOp s).1.cfg = s.cfg := by
  rcases writeRamOp_cases s with h | ⟨_, h⟩ <;> simp [h]

@[simp] theorem writeRamOp_seq (s : State) : (writeRamOp s).1.seq = s.seq := by
  rcases writeRamOp_cases s with h | ⟨_, h⟩ <;> simp [h]

@[simp] theorem updateOp_pb (s : State) : (updateOp s).1.pb = s.pb := by
  rcases updateOp_cases s with h | h | h <;> simp [h, setColWinOp, setRowWinOp]

@[simp] theorem updateOp_cfg (s : State) : (updateOp s).1.cfg = s.cfg := by
  rcases updateOp_cases s with h | h | h <;> simp [h, setColWinOp, setRowWinOp]

@[simp] theorem updateOp_seq (s : State) : (updateOp s).1.seq = s.seq := by
  rcases updateOp_cases s with h | h | h <;> simp [h, setColWinOp, setRowWinOp]

@[simp] theorem initFrom_pb (i : Nat) (table : List (Byte × List Byte)) (s : State) :
    (initFrom i table s).1.pb = s.pb :=
  initFrom_induct (P := fun t => t.pb = s.pb) (fun _ _ h => h) (fun _ _ _ h => by simpa using h) table i s rfl

@[simp] theorem initFrom_cfg (i : Nat) (table : List (Byte × List Byte)) (s : State) :
    (initFrom i table s).1.cfg = s.cfg :=
  initFrom_induct (P := fun t => t.cfg = s.cfg) (fun _ _ h => h) (fun _ _ _ h => by simpa using h) table i s rfl

@[simp] theorem initFrom_uph (i : Nat) (table : List (Byte × List Byte)) (s : State) :
    (initFrom i table s).1.uph = s.uph :=
  initFrom_induct (P := fun t => t.uph = s.uph) (fun _ _ h => h) (fun _ _ _ h => by simpa using h) table i s rfl

@[simp] theorem concludeUpdate_pb (r : State × Result) : (concludeUpdate r).pb = r.1.pb := by
  unfold concludeUpdate; split <;> rfl

@[simp] theorem concludeUpdate_cfg (r : State × Result) : (concludeUpdate r).cfg = r.1.cfg := by
  unfold concludeUpdate; split <;> rfl

@[simp] theorem concludeInit_pb (r : State × Result) : (concludeInit r).pb = r.1.pb := by
  unfold concludeInit; split <;> rfl

@[simp] theorem concludeInit_cfg (r : State × Result) : (concludeInit r).cfg = r.1.cfg := by
  unfold concludeInit; split <;> rfl

end Sys2Proof.Machine
end

section
/-! SUPPORT. The block's events case by case; then what only grows: the records every instruction and event continues. -/

namespace Sys2Proof.Machine

/-! ### The events, case by case -/

/-- A frame ENCODE has packed is returned (R83). -/
theorem event_of_encoded {s : State} {F : List Byte} (hw : s.wf = some F) (ho : s.op = 0#4) :
    event s = s.releaseFrame.finish (.okFrame F) := by simp [event, hw, ho]

/-- A frame any other operation has packed is handed to the transport and released (R101). -/
theorem event_of_packed {s : State} {F : List Byte} (hw : s.wf = some F) (ho : s.op ≠ 0#4) :
    event s = afterSend (.ofAnswer (s.transportAnswer F)) (s.afterTransport F).releaseFrame := by
  simp [event, hw, ho]

theorem event_of_noFrame {s : State} (hw : s.wf = none) : event s = startNext s := by simp [event, hw]

theorem afterSend_error {r : Result} (s : State) (hr : r ≠ .ok) : afterSend r s = s.raise r := by
  unfold afterSend; split
  · exact absurd rfl hr
  · rfl

/-- A window send that succeeds moves the phase on (R124, R125). -/
theorem afterSend_ok_of_window {s : State} (hu : s.uph = .col ∨ s.uph = .row) :
    afterSend .ok s = s.setPhase s.uph.successor := by
  rcases hu with hu | hu <;> simp [afterSend, hu, Phase.successor]

theorem afterSend_ok_of_build {s : State} (hu : s.uph = .build) : afterSend .ok s = s := by simp [afterSend, hu]

/-- The RAM write that succeeds ends the UPDATE (R124). -/
theorem afterSend_ok_of_write {s : State} (hu : s.uph = .write) :
    afterSend .ok s = (s.releaseImage.setPhase .none).finish .ok := by simp [afterSend, hu]

/-- A send of INIT that succeeds is followed by the next entry's, if there is one (R107, R108). -/
theorem afterSend_ok_of_sending {s : State} {i : Nat} (hu : s.uph = .none) (hs : s.seq = .sending i) :
    afterSend .ok s = initNext (i + 1) s := by simp [afterSend, hu, hs]

/-- A SEND of the host that succeeds returns (R101). -/
theorem afterSend_ok_of_sole {s : State} (hu : s.uph = .none) (hs : ∀ i, s.seq ≠ .sending i) :
    afterSend .ok s = s.finish .ok := by
  simp only [afterSend, hu]
  split
  · next i h => exact absurd h (hs i)
  all_goals rfl

theorem acquire_of_allocOk {first : Instr} {c : Byte} {p : List Byte} {s : State}
    (h : s.allocAnswer (frameLength p.length) = true) :
    acquire first c p s = openFrame first p (s.latchSend c p).afterAlloc := by simp [acquire, h]

theorem acquire_of_allocFails {first : Instr} {c : Byte} {p : List Byte} {s : State}
    (h : s.allocAnswer (frameLength p.length) = false) :
    acquire first c p s = (s.latchSend c p).afterAlloc.raise .allocationError := by
  simp [acquire, h, afterSend_error]

/-- The command symbol that opens the frame of an UPDATE's phase (R124). -/
def phaseSymbol : Phase → Instr
  | .col => .opcSetColumn
  | .row => .opcSetRow
  | .build | .write | .none => .opcWriteRam

/-- The symbol's unit is the command unit of the phase's send. -/
theorem unitOf_phaseSymbol (s : State) : unitOf s.cfg (phaseSymbol s.uph) = some (discCmd, (phaseSend s).1) := by
  cases h : s.uph <;> simp [phaseSymbol, phaseSend, unitOf, Instr.command?, columnSend, rowSend, h]

/-- A phase with a send first obtains its WireFrame (R125). -/
theorem startNext_of_sendPhase {s : State} (hu : s.uph ≠ .none) (hb : s.uph ≠ .build) :
    startNext s = acquire (phaseSymbol s.uph) (phaseSend s).1 (phaseSend s).2 s := by
  cases h : s.uph <;> simp [startNext, phaseSymbol, phaseSend, columnSend, rowSend, h] at hu hb ⊢

theorem startNext_of_build_ok {s : State} (hu : s.uph = .build) (ha : s.allocAnswer s.cfg.piSize = true) :
    startNext s = (s.afterAlloc.putImage s.reformatted).setPhase .write := by
  simp [startNext, hu, buildOp_of_allocOk ha]

theorem startNext_of_build_fails {s : State} (hu : s.uph = .build) (ha : s.allocAnswer s.cfg.piSize = false) :
    startNext s = s.afterAlloc.raise .allocationError := by
  simp [startNext, hu, buildOp_of_allocFails ha]

/-- INIT obtains the WireFrame of the entry `SEQ` names, or has none left to send (R107, R108). -/
theorem startNext_of_sending {s : State} {i : Nat} (hu : s.uph = .none) (hs : s.seq = .sending i) :
    (∃ e, s.cfg.initTable[i]? = some e ∧ startNext s = acquire (.cmdu e.1) e.1 e.2 s) ∨
      (s.cfg.initTable[i]? = none ∧ startNext s = initNext i s) := by
  cases he : s.cfg.initTable[i]? with
  | none => exact .inr ⟨rfl, by simp [startNext, hu, hs, he]⟩
  | some e => exact .inl ⟨e, rfl, by simp [startNext, hu, hs, he]⟩

/-- ENCODE opens its frame without a draw; SEND obtains one (R83, R101). -/
theorem startNext_of_sole {s : State} (hu : s.uph = .none) (hs : ∀ i, s.seq ≠ .sending i) :
    startNext s = if s.op = 0#4 then openFrame (.cmdu s.cmd) s.payload s
      else acquire (.cmdu s.cmd) s.cmd s.payload s := by
  simp only [startNext, hu]
  split
  · next i h => exact absurd h (hs i)
  all_goals rfl

/-! ### What only grows -/

/-- `t` comes after `s`: the constants are the same, and the transport's log and the results returned are continued
(R26, R33). -/
structure Extends (s t : State) : Prop where
  cfg      : t.cfg = s.cfg
  tlog     : s.tlog <+: t.tlog
  returned : s.returned <+: t.returned

namespace Extends

theorem refl (s : State) : Extends s s := ⟨rfl, List.prefix_rfl, List.prefix_rfl⟩

variable {s t u : State}

theorem trans (h : Extends s t) (k : Extends t u) : Extends s u :=
  ⟨k.cfg.trans h.cfg, h.tlog.trans k.tlog, h.returned.trans k.returned⟩

/-- An update that touches neither the constants nor a record. -/
theorem of_eq (hc : u.cfg = s.cfg) (hl : u.tlog = s.tlog) (hr : u.returned = s.returned) : Extends s u :=
  ⟨hc, hl ▸ List.prefix_rfl, hr ▸ List.prefix_rfl⟩

/-! Each rule continues a run from `s` by one operation. -/

theorem silent (h : Extends s t) (hc : u.cfg = t.cfg) (hl : u.tlog = t.tlog) (hr : u.returned = t.returned) :
    Extends s u := h.trans (of_eq hc hl hr)

/-- A run that starts after an update that touches neither the constants nor a record. -/
theorem after_silent (k : Extends t u) (hc : t.cfg = s.cfg) (hl : t.tlog = s.tlog) (hr : t.returned = s.returned) :
    Extends s u := (of_eq hc hl hr).trans k

theorem deliver {r : Result} (h : Extends s t) : Extends s (t.deliver r) :=
  h.trans ⟨rfl, List.prefix_rfl, List.prefix_append ..⟩

theorem finish {r : Result} (h : Extends s t) : Extends s (t.finish r) :=
  h.trans ⟨rfl, List.prefix_rfl, List.prefix_append ..⟩

theorem raise {r : Result} (h : Extends s t) : Extends s (t.raise r) :=
  h.trans ⟨rfl, List.prefix_rfl, List.prefix_append ..⟩

theorem afterTransport {F : List Byte} (h : Extends s t) : Extends s (t.afterTransport F) :=
  h.trans ⟨rfl, List.prefix_append .., List.prefix_rfl⟩

theorem sendOp {c : Byte} {p : List Byte} (h : Extends s t) : Extends s (sendOp c p t).1 :=
  h.trans ⟨sendOp_cfg c p t, by rw [sendOp_tlog]; exact List.prefix_append .., by simp⟩

theorem setColWinOp (h : Extends s t) : Extends s (setColWinOp t).1 := h.sendOp

theorem setRowWinOp (h : Extends s t) : Extends s (setRowWinOp t).1 := h.sendOp

theorem releaseImage (h : Extends s t) : Extends s t.releaseImage := h.silent rfl rfl rfl

theorem initFrom {i : Nat} {table : List (Byte × List Byte)} (h : Extends s t) : Extends s (initFrom i table t).1 :=
  initFrom_induct (P := Extends s) (fun _ _ h => h.silent rfl rfl rfl) (fun _ _ _ h => h.sendOp) table i t h

theorem writeRamOp (h : Extends s t) : Extends s (writeRamOp t).1 := by
  rcases writeRamOp_cases t with e | ⟨image, e⟩ <;> rw [e]
  · exact h.silent rfl rfl rfl
  · exact .releaseImage (.sendOp (h.silent rfl rfl rfl))

theorem updateOp (h : Extends s t) : Extends s (updateOp t).1 := by
  have hcol : Extends s (Machine.setColWinOp (t.setPhase .col)).1 := .setColWinOp (h.silent rfl rfl rfl)
  have hrow : Extends s (Machine.setRowWinOp ((Machine.setColWinOp (t.setPhase .col)).1.setPhase .row)).1 :=
    .setRowWinOp (hcol.silent rfl rfl rfl)
  rcases updateOp_cases t with e | e | e <;> rw [e]
  · exact hcol
  · exact hrow
  · exact hrow.writeRamOp

theorem concludeInit {r : State × Result} (h : Extends s r.1) : Extends s (concludeInit r) := by
  unfold Machine.concludeInit; split
  · exact h.finish
  · exact h.raise

theorem concludeUpdate {r : State × Result} (h : Extends s r.1) : Extends s (concludeUpdate r) := by
  unfold Machine.concludeUpdate; split
  · exact .finish (h.silent rfl rfl rfl)
  · exact h.raise

theorem pbWriteOp {off : Nat} {data : List Byte} (h : Extends s t) : Extends s (pbWriteOp off data t).1 := by
  rcases Nat.lt_or_ge t.cfg.pbSize off with ho | ho
  · rw [pbWriteOp_of_beyond ho]; exact h.silent rfl rfl rfl
  · rw [pbWriteOp_of_inside ho]; split_ifs <;> exact h.silent rfl rfl rfl

/-! The events. -/

theorem initNext {i : Nat} (h : Extends s t) : Extends s (initNext i t) := by
  unfold Machine.initNext; split_ifs
  · exact h.silent rfl rfl rfl
  · exact .finish (h.silent rfl rfl rfl)

theorem afterSend {r : Result} (h : Extends s t) : Extends s (afterSend r t) := by
  by_cases hr : r = .ok
  · subst hr
    cases hu : t.uph with
    | col => rw [afterSend_ok_of_window (.inl hu)]; exact h.silent rfl rfl rfl
    | row => rw [afterSend_ok_of_window (.inr hu)]; exact h.silent rfl rfl rfl
    | build => rw [afterSend_ok_of_build hu]; exact h
    | write => rw [afterSend_ok_of_write hu]; exact .finish (h.silent rfl rfl rfl)
    | none =>
      by_cases hs : ∃ i, t.seq = .sending i
      · obtain ⟨i, hs⟩ := hs
        rw [afterSend_ok_of_sending hu hs]; exact h.initNext
      · rw [afterSend_ok_of_sole hu (not_exists.1 hs)]; exact h.finish
  · rw [afterSend_error t hr]; exact h.raise

theorem acquire {first : Instr} {c : Byte} {p : List Byte} (h : Extends s t) : Extends s (acquire first c p t) := by
  cases ha : t.allocAnswer (frameLength p.length)
  · rw [acquire_of_allocFails ha]; exact .raise (h.silent rfl rfl rfl)
  · rw [acquire_of_allocOk ha]; exact h.silent rfl rfl rfl

theorem startNext (h : Extends s t) : Extends s (startNext t) := by
  by_cases hu : t.uph = .none
  · by_cases hs : ∃ i, t.seq = .sending i
    · obtain ⟨i, hs⟩ := hs
      rcases startNext_of_sending hu hs with ⟨e, -, he⟩ | ⟨-, he⟩ <;> rw [he]
      · exact h.acquire
      · exact h.initNext
    · rw [startNext_of_sole hu (not_exists.1 hs)]
      split_ifs
      · exact h.silent rfl rfl rfl
      · exact h.acquire
  · by_cases hb : t.uph = .build
    · cases ha : t.allocAnswer t.cfg.piSize
      · rw [startNext_of_build_fails hb ha]; exact .raise (h.silent rfl rfl rfl)
      · rw [startNext_of_build_ok hb ha]; exact h.silent rfl rfl rfl
    · rw [startNext_of_sendPhase hu hb]; exact h.acquire

theorem event (h : Extends s t) : Extends s (event t) := by
  cases hw : t.wf with
  | none => rw [event_of_noFrame hw]; exact h.startNext
  | some F =>
    by_cases ho : t.op = 0#4
    · rw [event_of_encoded hw ho]; exact .finish (h.silent rfl rfl rfl)
    · rw [event_of_packed hw ho]; exact .afterSend (.silent h.afterTransport rfl rfl rfl)

/-! The instructions and the steps. -/

theorem onFrame {n : Nat} {f : Writer → Writer} (h : onFrame n f s = .next t) : Extends s t := by
  obtain ⟨F, -, -, rfl⟩ := onFrame_eq_next.1 h
  exact of_eq rfl rfl rfl

theorem execEncode {c : Byte} {p : List Byte} (h : execEncode c p s = .next t) : Extends s t := by
  obtain ⟨-, -, rfl⟩ := execEncode_next h
  split_ifs
  · exact .finish (of_eq rfl rfl rfl)
  · exact of_eq rfl rfl rfl

theorem execSend {c : Byte} {p : List Byte} (h : execSend c p s = .next t) : Extends s t := by
  obtain ⟨-, -, rfl⟩ := execSend_next h
  split_ifs
  · exact .finish (.sendOp (of_eq rfl rfl rfl))
  · exact of_eq rfl rfl rfl

theorem execInit (h : execInit s = .next t) : Extends s t := by
  obtain ⟨-, -, rfl⟩ := execInit_next h
  split_ifs
  · exact .concludeInit (.initFrom (of_eq rfl rfl rfl))
  · exact .initNext (of_eq rfl rfl rfl)

theorem updateRequest (h : updateRequest s = .next t) : Extends s t := by
  obtain ⟨-, -, -, rfl⟩ := updateRequest_next h
  split_ifs
  · exact .concludeUpdate (.updateOp (of_eq rfl rfl rfl))
  · exact of_eq rfl rfl rfl

theorem execPbRead {off cnt : Nat} (h : execPbRead off cnt s = .next t) : Extends s t := by
  obtain ⟨-, rfl⟩ := execPbRead_next h
  exact .finish (of_eq rfl rfl rfl)

theorem execPbWrite {off : Nat} {data : List Byte} (h : execPbWrite off data s = .next t) : Extends s t := by
  rcases execPbWrite_next h with ⟨-, rfl⟩ | ⟨-, -, -, rfl⟩
  · exact .finish (.pbWriteOp (of_eq rfl rfl rfl))
  · exact .deliver (.pbWriteOp (refl s))

theorem execChkGray {v : Nat} (h : execChkGray v s = .next t) : Extends s t := by
  obtain ⟨-, rfl⟩ := execChkGray_next h
  exact .finish (of_eq rfl rfl rfl)

theorem execShutdown (h : execShutdown s = .next t) : Extends s t := by
  obtain ⟨-, rfl⟩ := execShutdown_next h
  exact .finish (of_eq rfl rfl rfl)

theorem execHostWrite {off : Nat} {data : List Byte} (h : execHostWrite off data s = .next t) : Extends s t := by
  have hw : ∀ r, Extends s ((Machine.pbWriteOp off data (s.start 5#4)).1.finish r) :=
    fun _ => .finish (.pbWriteOp (of_eq rfl rfl rfl))
  obtain ⟨-, ⟨-, rfl⟩ | ⟨-, hr⟩⟩ := execHostWrite_next h
  · exact hw _
  · exact (hw _).trans (.updateRequest hr)

/-- The internal operations that are refused only for their payload's length. -/
theorem of_ite_refused {c : Prop} [Decidable c] {r : Refusal} {x : State}
    (h : (if c then (.next x : Reply) else .refused r) = .next t) (hx : Extends s x) : Extends s t := by
  split_ifs at h
  exact Host.Outcome.next.inj h ▸ hx

theorem execDecode {F : List Byte} (h : execDecode F s = .next t) : Extends s t := by
  unfold Machine.execDecode at h
  split at h
  · exact Host.Outcome.next.inj h ▸ (refl s).deliver
  · cases h

/-- Every instruction only continues the records, in every state. -/
theorem exec {i : Instr} (h : exec i s = .next t) : Extends s t := by
  cases hu : unitOf s.cfg i with
  | some e => exact .onFrame ((exec_of_unitOf hu).symm.trans h)
  | none =>
    cases i with
    | encode c p => exact .execEncode h
    | send c p => exact .execSend h
    | init => exact .execInit h
    | update => exact .updateRequest h
    | pbRead off cnt => exact .execPbRead h
    | pbWrite off data => exact .execPbWrite h
    | chkGray v => exact .execChkGray h
    | shutdown => exact .execShutdown h
    | reservedHop x => cases h
    | writeBit b => exact .onFrame (show execWriteBit b s = .next t from h)
    | writeByte v => exact .onFrame (show execWriteByte v s = .next t from h)
    | writeUnit d v => exact .onFrame (show packUnit d v s = .next t from h)
    | reformat => exact Host.Outcome.next.inj h ▸ of_eq rfl rfl rfl
    | setColWin => exact of_ite_refused h (.deliver (.sendOp (refl s)))
    | setRowWin => exact of_ite_refused h (.deliver (.sendOp (refl s)))
    | writeRam => exact of_ite_refused h ((refl s).writeRamOp.deliver)
    | decode F => exact .execDecode h
    | hostWrite off data => exact .execHostWrite h
    | transportSend F => exact Host.Outcome.next.inj h ▸ .deliver ((refl s).afterTransport)
    | _ => simp [unitOf, Instr.command?] at hu

theorem hostStep (h : hostStep s = .next t) : Extends s t := by
  unfold Machine.hostStep at h
  split at h
  · exact Host.Outcome.next.inj h ▸ refl s
  · exact after_silent (.exec h) rfl rfl rfl

theorem blockStep (h : blockStep s = .next t) : Extends s t := by
  unfold Machine.blockStep at h
  split at h
  · exact after_silent (.exec h) rfl rfl rfl
  · exact Host.Outcome.next.inj h ▸ (refl s).event

theorem step (h : step s = .next t) : Extends s t := by
  unfold Machine.step at h
  split at h
  · split at h
    · exact after_silent (.hostStep h) rfl rfl rfl
    · exact after_silent (.blockStep h) rfl rfl rfl
    · exact .blockStep h
  · exact .hostStep h

end Extends

end Sys2Proof.Machine
end

section
open Sys2Proof Sys2Proof.Machine

/-- Settles O48: every step continues the log and the results, and leaves the constants alone. -/
theorem stepOnlyExtendsTheLog : Obligations.StepOnlyExtendsTheLog := by
  intro s t h
  obtain ⟨hcfg, ⟨l, hl⟩, r, hr⟩ := Extends.step h
  exact ⟨hcfg, ⟨l, hl.symm⟩, r, hr.symm⟩

end

section
/-! SUPPORT. The invariant: what it says at each kind of state, and that every update, event, request and step keeps it. -/

namespace Sys2Proof.Machine

/-! ### What the invariant says at each kind of state -/

namespace Inv

variable {s : State}

theorem pi_eq_none (h : Inv s) (hu : s.uph ≠ .write) : s.pi = none :=
  Option.not_isSome_iff_eq_none.1 fun hp => hu (h.image.1 hp)

theorem pbOld_eq_nil (h : Inv s) (hu : s.uph ≠ .build) : s.pbOld = [] :=
  Classical.not_not.1 fun hp => hu (h.racing hp)

theorem uph_eq_none_of_op (h : Inv s) (ho : s.op ≠ 3#4) : s.uph = .none :=
  Classical.not_not.1 fun hu => ho (h.updating hu).2.2

theorem not_sending_of_op (h : Inv s) (ho : s.op ≠ 2#4) (i : Nat) : s.seq ≠ .sending i :=
  fun hs => ho (h.sending i hs).2.2

theorem not_sending_of_uph (h : Inv s) (hu : s.uph ≠ .none) (i : Nat) : s.seq ≠ .sending i := by
  rw [(h.updating hu).2.1]; nofun

/-- Outside an UPDATE and an INIT, nothing but `BUSY` and the WireFrame is left of an operation: its return leaves the
block quiet. -/
theorem quiet_finish (h : Inv s) (hw : s.wf = none) (hu : s.uph = .none) (hs : ∀ i, s.seq ≠ .sending i) (r : Result) :
    Quiet (s.finish r) :=
  ⟨rfl, hw, h.waiting hw, h.pi_eq_none (by simp [hu]), h.pbOld_eq_nil (by simp [hu]), hu, hs⟩

end Inv

/-- Raising an error keeps the invariant, whatever was in progress (R164). -/
theorem inv_raise {s : State} (r : Result) (h : PbOk s.cfg s.pb) : Inv (s.raise r) := inv_of_quiet (quiet_raise s r) h

/-! ### Updates that keep the invariant -/

namespace Inv

variable {s : State}

theorem takeTurn (h : Inv s) : Inv s.takeTurn where
  __ := h
  quiet hb := { h.quiet hb with }

theorem takeRequest (h : Inv s) (rest : List HostReq) : Inv (s.takeRequest rest) where
  __ := h
  quiet hb := { h.quiet hb with }

theorem deliver (h : Inv s) (r : Result) : Inv (s.deliver r) where
  __ := h
  quiet hb := { h.quiet hb with }

theorem afterAlloc (h : Inv s) : Inv s.afterAlloc where
  __ := h
  quiet hb := { h.quiet hb with }

theorem afterTransport (h : Inv s) (F : List Byte) : Inv (s.afterTransport F) where
  __ := h
  quiet hb := { h.quiet hb with }

/-- Releasing the WireFrame (R29, R30). -/
theorem releaseFrame (h : Inv s) : Inv s.releaseFrame where
  __ := h
  quiet hb := { h.quiet hb with wf := rfl, issue := rfl }
  noFrame _ := rfl
  waiting _ := rfl
  packing := nofun

/-- The operands are latched before the WireFrame is obtained (R21, R101). -/
theorem latchSend (h : Inv s) (hw : s.wf = none) (c : Byte) (p : List Byte) : Inv (s.latchSend c p) where
  __ := h
  quiet hb := { h.quiet hb with }
  packing _ hF := absurd (hw.symm.trans hF) nofun

/-- A phase follows another once the frame of its send is released (R124, R125). -/
theorem setPhase (h : Inv s) (hu : s.uph = .col ∨ s.uph = .row) (hw : s.wf = none) {u : Phase}
    (hn : u ≠ .none) (hwr : u ≠ .write) : Inv (s.setPhase u) := by
  have hne : s.uph ≠ .none := by rcases hu with hu | hu <;> simp [hu]
  have hpi : s.pi = none := h.pi_eq_none (by rcases hu with hu | hu <;> simp [hu])
  have hold : s.pbOld = [] := h.pbOld_eq_nil (by rcases hu with hu | hu <;> simp [hu])
  have hbusy := h.updating hne
  exact {
    pb := h.pb
    pbOld := h.pbOld
    quiet := fun hb => absurd (hb.symm.trans hbusy.1) nofun
    valid := h.valid
    updating := fun _ => hbusy
    sending := h.sending
    sole := fun _ hu' => absurd hu' hn
    image := ⟨fun hi => by simp [hpi] at hi, fun hi => absurd hi hwr⟩
    imageOk := h.imageOk
    racing := fun hi => absurd hold hi
    noFrame := fun _ => hw
    waiting := h.waiting
    packing := h.packing }

/-- A WireFrame opened for the latched operands: what waits packs them (R83). -/
theorem openFrame (h : Inv s) (hb : s.busy = true) (hu : s.uph ≠ .build) {first : Instr}
    (hf : unitOf s.cfg first = some (discCmd, s.cmd)) : Inv (openFrame first s.payload s) where
  pb := h.pb
  pbOld := h.pbOld
  quiet hb' := absurd (hb'.symm.trans hb) nofun
  valid := h.valid
  updating := h.updating
  sending := h.sending
  sole := h.sole
  image := h.image
  imageOk := h.imageOk
  racing := h.racing
  noFrame hu' := absurd hu' hu
  waiting := nofun
  packing F hF := by
    obtain rfl : (Writer.start s.payload.length).buf = F := Option.some.inj hF
    refine ⟨fun i hi => ?_, ?_⟩
    · rcases List.mem_cons.1 hi with rfl | hi
      · exact Option.isSome_iff_exists.2 ⟨_, hf⟩
      · obtain ⟨d, -, rfl⟩ := List.mem_map.1 hi
        rfl
    · show (first :: s.payload.map .datu).foldl (packIssued s.cfg) (Writer.start s.payload.length) =
        encodeWriter s.cmd s.payload
      rw [List.foldl_cons, foldl_packIssued_datu, packIssued, hf, encodeWriter]

/-! ### The events -/

/-- The first event of a send: its WireFrame is opened, or AllocationError is raised (R101). -/
theorem acquire (h : Inv s) (hb : s.busy = true) (hw : s.wf = none) (hu : s.uph ≠ .build) {first : Instr} {c : Byte}
    (hf : unitOf s.cfg first = some (discCmd, c)) (p : List Byte) : Inv (acquire first c p s) := by
  cases ha : s.allocAnswer (frameLength p.length)
  · rw [acquire_of_allocFails ha]; exact inv_raise _ h.pb
  · rw [acquire_of_allocOk ha]; exact (h.latchSend hw c p).afterAlloc.openFrame hb hu hf

/-- INIT goes on to entry `i`, or ends in Ready (R107, R108). -/
theorem initNext (h : Inv s) {j : Nat} (hs : s.seq = .sending j) (hw : s.wf = none) (hu : s.uph = .none) (i : Nat) :
    Inv (initNext i s) := by
  obtain ⟨hb, -, ho⟩ := h.sending j hs
  unfold Machine.initNext
  split_ifs with hi
  · exact { h with
      quiet := fun hb' => absurd (hb'.symm.trans hb) nofun
      updating := fun hu' => absurd hu hu'
      sending := fun k hk => by cases hk; exact ⟨hb, hi, ho⟩
      sole := fun _ _ hk => absurd rfl (hk i) }
  · exact inv_of_quiet
      ⟨rfl, hw, h.waiting hw, h.pi_eq_none (by simp [hu]), h.pbOld_eq_nil (by simp [hu]), hu, nofun⟩ h.pb

/-- What follows a send whose WireFrame is released (R107, R124, R126). -/
theorem afterSend (h : Inv s) (hw : s.wf = none) (r : Result) : Inv (afterSend r s) := by
  by_cases hr : r = .ok
  · subst hr
    cases hu : s.uph with
    | col => rw [afterSend_ok_of_window (.inl hu), hu]; exact h.setPhase (.inl hu) hw nofun nofun
    | row => rw [afterSend_ok_of_window (.inr hu), hu]; exact h.setPhase (.inr hu) hw nofun nofun
    | build => rw [afterSend_ok_of_build hu]; exact h
    | write =>
      rw [afterSend_ok_of_write hu]
      exact inv_of_quiet ⟨rfl, hw, h.waiting hw, rfl, rfl, rfl, h.not_sending_of_uph (by simp [hu])⟩ h.pb
    | none =>
      by_cases hs : ∃ i, s.seq = .sending i
      · obtain ⟨i, hs⟩ := hs
        rw [afterSend_ok_of_sending hu hs]; exact h.initNext hs hw hu _
      · have hs := not_exists.1 hs
        rw [afterSend_ok_of_sole hu hs]; exact inv_of_quiet (h.quiet_finish hw hu hs _) h.pb
  · rw [afterSend_error s hr]; exact inv_raise _ h.pb

/-- The image U_Build fills has `PI_SIZE` bytes, each a grey level in both halves (R47, R122). -/
theorem reformatted_ok (h : Inv s) (hb : s.busy = true) :
    s.reformatted.length = s.cfg.piSize ∧ ∀ b ∈ s.reformatted, ∃ g, b = greyByte g :=
  ⟨(length_panelImage ..).trans (piSize_of_valid (h.valid hb)).symm, fun _ => mem_panelImage⟩

/-- U_Build fills `PI` and enters U_Write (R123, R125). -/
theorem putImage (h : Inv s) (hu : s.uph = .build) : Inv ((s.afterAlloc.putImage s.reformatted).setPhase .write) := by
  obtain ⟨hb, hseq, ho⟩ := h.updating (by simp [hu])
  exact { h with
    pbOld := nofun
    quiet := fun hb' => absurd (hb'.symm.trans hb) nofun
    updating := fun _ => ⟨hb, hseq, ho⟩
    sole := fun _ => nofun
    image := ⟨fun _ => rfl, fun _ => rfl⟩
    imageOk := fun image hi => by
      obtain rfl : s.reformatted = image := Option.some.inj hi
      exact h.reformatted_ok hb
    racing := fun hi => absurd rfl hi
    noFrame := nofun }

theorem startNext (h : Inv s) (hb : s.busy = true) (hw : s.wf = none) : Inv (startNext s) := by
  by_cases hu : s.uph = .none
  · have hub : s.uph ≠ .build := by simp [hu]
    by_cases hs : ∃ i, s.seq = .sending i
    · obtain ⟨i, hs⟩ := hs
      rcases startNext_of_sending hu hs with ⟨e, -, he⟩ | ⟨-, he⟩ <;> rw [he]
      · exact h.acquire hb hw hub rfl _
      · exact h.initNext hs hw hu _
    · rw [startNext_of_sole hu (not_exists.1 hs)]
      split_ifs
      · exact h.openFrame hb hub rfl
      · exact h.acquire hb hw hub rfl _
  · by_cases hub : s.uph = .build
    · cases ha : s.allocAnswer s.cfg.piSize
      · rw [startNext_of_build_fails hub ha]; exact inv_raise _ h.pb
      · rw [startNext_of_build_ok hub ha]; exact h.putImage hub
    · rw [startNext_of_sendPhase hu hub]; exact h.acquire hb hw hub (unitOf_phaseSymbol s) _

theorem event (h : Inv s) (hb : s.busy = true) : Inv (event s) := by
  cases hw : s.wf with
  | none => rw [event_of_noFrame hw]; exact h.startNext hb hw
  | some F =>
    by_cases ho : s.op = 0#4
    · have hu := h.uph_eq_none_of_op (by simp [ho])
      have hs := h.not_sending_of_op (by simp [ho])
      rw [event_of_encoded hw ho]
      exact inv_of_quiet (h.releaseFrame.quiet_finish rfl hu hs _) h.pb
    · rw [event_of_packed hw ho]; exact (h.afterTransport F).releaseFrame.afterSend rfl _

/-! ### Packing the units that wait -/

/-- The next unit that waits fits: packing all of them fills the frame of the latched operands (R82, R83). -/
theorem room (h : Inv s) {F : List Byte} (hw : s.wf = some F) {i : Instr} {rest : List Instr}
    (hi : s.issue = i :: rest) : s.cursor + 9 ≤ 8 * F.length := by
  obtain ⟨hunits, hpack⟩ := h.packing F hw
  obtain ⟨hcursor, hlength⟩ := foldl_packIssued_size s.cfg s.issue ⟨F, s.cursor⟩ hunits
  have hframe : (encodeWriter s.cmd s.payload).buf.length = frameLength s.payload.length :=
    encodeFrame_length_eq s.cmd s.payload
  rw [hpack, encodeWriter_cursor, hi, List.length_cons] at hcursor
  rw [hpack, hframe, frameLength] at hlength
  dsimp only at hcursor hlength
  omega

/-- The block packs the next unit that waits (R82). -/
theorem blockStep_packs (h : Inv s) {i : Instr} {rest : List Instr} (hi : s.issue = i :: rest) :
    ∃ F, s.wf = some F ∧
      blockStep s = .next ((s.setIssue rest).putWriter (packIssued s.cfg ⟨F, s.cursor⟩ i)) := by
  cases hw : s.wf with
  | none => rw [h.waiting hw] at hi; cases hi
  | some F =>
    obtain ⟨⟨d, v⟩, hu⟩ := Option.isSome_iff_exists.1 ((h.packing F hw).1 i (by simp [hi]))
    refine ⟨F, rfl, ?_⟩
    have hroom : (s.setIssue rest).cursor + 9 ≤ 8 * F.length := h.room hw hi
    rw [blockStep, hi, packIssued, hu]
    exact (exec_of_unitOf (s := s.setIssue rest) hu).trans (onFrame_of_room hw hroom)

/-- Packing a unit that waits leaves the rest on the way to the same frame (R83). -/
theorem packed (h : Inv s) {F : List Byte} (hw : s.wf = some F) {i : Instr} {rest : List Instr}
    (hi : s.issue = i :: rest) : Inv ((s.setIssue rest).putWriter (packIssued s.cfg ⟨F, s.cursor⟩ i)) where
  __ := h
  quiet hb := absurd ((h.quiet hb).wf.symm.trans hw) nofun
  noFrame hu := absurd ((h.noFrame hu).symm.trans hw) nofun
  waiting := nofun
  packing F' hF := by
    obtain ⟨hunits, hpack⟩ := h.packing F hw
    obtain rfl : (packIssued s.cfg ⟨F, s.cursor⟩ i).buf = F' := Option.some.inj hF
    rw [hi] at hunits hpack
    exact ⟨fun j hj => hunits j (List.mem_cons_of_mem _ hj), hpack⟩

theorem blockStep {t : State} (h : Inv s) (hb : s.busy = true) (hst : blockStep s = .next t) : Inv t := by
  cases hi : s.issue with
  | nil =>
    have he : Machine.blockStep s = .next (Machine.event s) := by simp [Machine.blockStep, hi]
    exact Host.Outcome.next.inj (he.symm.trans hst) ▸ h.event hb
  | cons i rest =>
    obtain ⟨F, hw, hp⟩ := h.blockStep_packs hi
    exact Host.Outcome.next.inj (hp.symm.trans hst) ▸ h.packed hw hi

end Inv

/-! ### The operations the host requests -/

/-- No transient buffer exists and no unit waits (R28 to R30). -/
structure NoBuffers (s : State) : Prop where
  wf    : s.wf = none
  issue : s.issue = []
  pi    : s.pi = none
  pbOld : s.pbOld = []

namespace NoBuffers

variable {s : State}

/-- The operation that returns with no buffer, no phase and no INIT entry leaves the block quiet. -/
theorem quiet_finish (h : NoBuffers s) (hu : s.uph = .none) (hs : ∀ i, s.seq ≠ .sending i) (r : Result) :
    Quiet (s.finish r) := ⟨rfl, h.wf, h.issue, h.pi, h.pbOld, hu, hs⟩

theorem sendOp (h : NoBuffers s) (c : Byte) (p : List Byte) : NoBuffers (sendOp c p s).1 :=
  ⟨sendOp_wf c p h.wf, sendOp_issue c p h.issue, by simp [h.pi], by simp [h.pbOld]⟩

theorem setPhase (h : NoBuffers s) (u : Phase) : NoBuffers (s.setPhase u) := { h with }

theorem setSeq (h : NoBuffers s) (q : Seq) : NoBuffers (s.setSeq q) := { h with }

theorem initFrom (h : NoBuffers s) (i : Nat) (table : List (Byte × List Byte)) : NoBuffers (initFrom i table s).1 :=
  initFrom_induct (P := NoBuffers) (fun q _ h => h.setSeq q) (fun c p _ h => h.sendOp c p) table i s h

/-- WRITERAM releases `PI` on every path (R123). -/
theorem writeRamOp (h : NoBuffers s) : NoBuffers (writeRamOp s).1 := by
  rcases writeRamOp_cases s with e | ⟨image, e⟩ <;> rw [e]
  · exact ⟨h.wf, h.issue, rfl, rfl⟩
  · exact ⟨sendOp_wf _ _ h.wf, sendOp_issue _ _ h.issue, rfl, rfl⟩

theorem updateOp (h : NoBuffers s) : NoBuffers (updateOp s).1 := by
  have hcol : NoBuffers (setColWinOp (s.setPhase .col)).1 := (h.setPhase _).sendOp _ _
  have hrow : NoBuffers (setRowWinOp ((setColWinOp (s.setPhase .col)).1.setPhase .row)).1 := (hcol.setPhase _).sendOp _ _
  rcases updateOp_cases s with e | e | e <;> rw [e]
  · exact hcol
  · exact hrow
  · exact hrow.writeRamOp

end NoBuffers

/-- Whatever its sends answer, an INIT made at once leaves the block quiet (R107). -/
theorem quiet_concludeInit {s : State} (h : NoBuffers s) (hu : s.uph = .none) (table : List (Byte × List Byte)) :
    Quiet (concludeInit (initFrom 0 table s)) := by
  by_cases hr : (initFrom 0 table s).2 = .ok
  · rw [concludeInit_ok hr]
    exact (h.initFrom 0 table).quiet_finish (by simp [hu]) (by simp [initFrom_seq_of_ok table 0 s hr]) _
  · rw [concludeInit_error hr]; exact quiet_raise _ _

/-- Whatever its sends answer, an UPDATE made at once leaves the block quiet (R124, R133). -/
theorem quiet_concludeUpdate {s : State} (h : NoBuffers s) (hs : ∀ i, s.seq ≠ .sending i) :
    Quiet (concludeUpdate (updateOp s)) := by
  by_cases hr : (updateOp s).2 = .ok
  · rw [concludeUpdate_ok hr]
    exact (h.updateOp.setPhase .none).quiet_finish rfl (by simpa using hs) _
  · rw [concludeUpdate_error hr]; exact quiet_raise _ _

/-- A PB_WRITE stores inside the PixelBuffer or nothing (R142). -/
theorem pbOk_pbWriteOp {s : State} (off : Nat) (data : List Byte) (h : PbOk s.cfg s.pb) :
    PbOk s.cfg (pbWriteOp off data s).1.pb := by
  rcases Nat.lt_or_ge s.cfg.pbSize off with ho | ho
  · rw [pbWriteOp_of_beyond ho]; exact h
  · rw [pbWriteOp_of_inside ho]; exact pbOk_writeBytes off data h ho

@[simp] theorem pbWriteOp_cfg (off : Nat) (data : List Byte) (s : State) : (pbWriteOp off data s).1.cfg = s.cfg :=
  (Extends.refl s).pbWriteOp.cfg

/-- Outside U_Build a PB_WRITE writes its latches and the PixelBuffer only. -/
theorem pbWriteOp_eq {s : State} (off : Nat) (data : List Byte) (hu : s.uph ≠ .build) :
    (pbWriteOp off data s).1 = (s.latchPort off data.length).setPb (pbWriteOp off data s).1.pb := by
  rcases Nat.lt_or_ge s.cfg.pbSize off with ho | ho
  · rw [pbWriteOp_of_beyond ho]; rfl
  · rw [pbWriteOp_of_inside ho, if_neg hu]; rfl

theorem Quiet.noBuffers {s : State} (h : Quiet s) : NoBuffers s := ⟨h.wf, h.issue, h.pi, h.pbOld⟩

/-- An operation that has only begun: no buffer is obtained yet, and the phase, the INIT entry and the selector belong
together. -/
theorem inv_of_begun {s : State} (hn : NoBuffers s) (hp : PbOk s.cfg s.pb) (hv : s.cfg.valid = true)
    (hb : s.busy = true) (hw : s.uph ≠ .write)
    (updating : s.uph ≠ .none → s.seq = .ready ∧ s.op = 3#4)
    (sending : ∀ i, s.seq = .sending i → i < s.cfg.nInit ∧ s.op = 2#4)
    (sole : s.uph = .none → (∀ i, s.seq ≠ .sending i) → s.op = 0#4 ∨ s.op = 1#4) : Inv s where
  pb := hp
  pbOld := by simp [hn.pbOld]
  quiet hb' := absurd (hb'.symm.trans hb) nofun
  valid _ := hv
  updating hu := ⟨hb, updating hu⟩
  sending i hi := ⟨hb, sending i hi⟩
  sole _ := sole
  image := by simp [hn.pi, hw]
  imageOk := by simp [hn.pi]
  racing hr := absurd hn.pbOld hr
  noFrame _ := hn.wf
  waiting _ := hn.issue
  packing := by simp [hn.wf]

namespace Inv

variable {s t : State}

/-- An ENCODE or a SEND that has only begun (R83, R101). -/
theorem begun_latchSend (h : Inv s) (ha : Admits s) {op : Selector} (ho : op = 0#4 ∨ op = 1#4) (c : Byte)
    (p : List Byte) : Inv ((s.start op).latchSend c p) := by
  have hq := h.quiet ha.2
  exact inv_of_begun { hq.noBuffers with } h.pb ha.1 rfl (by simp [hq.uph]) (fun hu => absurd hq.uph hu)
    (fun i hi => absurd hi (hq.seq i)) fun _ _ => ho

theorem execEncode {c : Byte} {p : List Byte} (h : Inv s) (hst : execEncode c p s = .next t) : Inv t := by
  obtain ⟨ha, -, rfl⟩ := execEncode_next hst
  have hq := h.quiet ha.2
  split_ifs
  · exact inv_of_quiet ⟨rfl, rfl, rfl, hq.pi, hq.pbOld, hq.uph, hq.seq⟩ h.pb
  · exact h.begun_latchSend ha (.inl rfl) c p

theorem execSend {c : Byte} {p : List Byte} (h : Inv s) (hst : execSend c p s = .next t) : Inv t := by
  obtain ⟨ha, -, rfl⟩ := execSend_next hst
  have hq := h.quiet ha.2
  have hn : NoBuffers (s.start 1#4) := { hq.noBuffers with }
  split_ifs
  · exact inv_of_quiet ((hn.sendOp c p).quiet_finish (by simp [hq.uph]) (by simpa using hq.seq) _) (by simpa using h.pb)
  · exact h.begun_latchSend ha (.inr rfl) c p

theorem execInit (h : Inv s) (hst : execInit s = .next t) : Inv t := by
  obtain ⟨ha, -, rfl⟩ := execInit_next hst
  have hq := h.quiet ha.2
  have hn : NoBuffers (s.start 2#4) := { hq.noBuffers with }
  split_ifs
  · exact inv_of_quiet (quiet_concludeInit hn hq.uph _) (by simpa using h.pb)
  · unfold Machine.initNext
    split_ifs with h0
    · exact inv_of_begun (hn.setSeq _) h.pb ha.1 rfl (by simp [hq.uph]) (fun hu => absurd hq.uph hu)
        (fun i hi => by cases hi; exact ⟨h0, rfl⟩) fun _ hs => absurd rfl (hs 0)
    · exact inv_of_quiet ((hn.setSeq .ready).quiet_finish hq.uph nofun _) h.pb

theorem updateRequest (h : Inv s) (hst : updateRequest s = .next t) : Inv t := by
  obtain ⟨ha, hr, -, rfl⟩ := updateRequest_next hst
  have hq := h.quiet ha.2
  have hn : NoBuffers (s.start 3#4) := { hq.noBuffers with }
  split_ifs
  · exact inv_of_quiet (quiet_concludeUpdate hn hq.seq) (by simpa using h.pb)
  · exact inv_of_begun (hn.setPhase .col) h.pb ha.1 rfl nofun (fun _ => ⟨hr, rfl⟩)
      (fun i hi => absurd hi (hq.seq i)) nofun

theorem execPbRead {off cnt : Nat} (h : Inv s) (hst : execPbRead off cnt s = .next t) : Inv t := by
  obtain ⟨ha, rfl⟩ := execPbRead_next hst
  exact inv_of_quiet { h.quiet ha.2 with busy := rfl } h.pb

theorem execChkGray {v : Nat} (h : Inv s) (hst : execChkGray v s = .next t) : Inv t := by
  obtain ⟨ha, rfl⟩ := execChkGray_next hst
  exact inv_of_quiet { h.quiet ha.2 with busy := rfl } h.pb

theorem execShutdown (h : Inv s) (hst : execShutdown s = .next t) : Inv t := by
  obtain ⟨ha, rfl⟩ := execShutdown_next hst
  exact inv_of_quiet { h.quiet ha.2 with busy := rfl } h.pb

/-! The race of R55: a PB_WRITE inside an UPDATE. -/

theorem latchPort (h : Inv s) (off cnt : Nat) : Inv (s.latchPort off cnt) where
  __ := h
  quiet hb := { h.quiet hb with }

theorem setPb (h : Inv s) {m : Memory} (hm : PbOk s.cfg m) : Inv (s.setPb m) where
  __ := h
  pb := hm
  quiet hb := { h.quiet hb with }

/-- In U_Build the contents a PB_WRITE replaces are kept (R55). -/
theorem rememberPb (h : Inv s) (hu : s.uph = .build) : Inv s.rememberPb where
  __ := h
  pbOld := List.forall_mem_cons.2 ⟨h.pb, h.pbOld⟩
  quiet hb := absurd ((h.quiet hb).uph.symm.trans hu) nofun
  racing _ := hu

theorem pbWriteOp (h : Inv s) (off : Nat) (data : List Byte) : Inv (pbWriteOp off data s).1 := by
  rcases Nat.lt_or_ge s.cfg.pbSize off with ho | ho
  · rw [pbWriteOp_of_beyond ho]; exact h.latchPort _ _
  · have hm := pbOk_writeBytes off data h.pb ho
    rw [pbWriteOp_of_inside ho]
    split_ifs with hu
    · exact ((h.latchPort off data.length).rememberPb hu).setPb hm
    · exact (h.latchPort off data.length).setPb hm

theorem execPbWrite {off : Nat} {data : List Byte} (h : Inv s) (hst : execPbWrite off data s = .next t) : Inv t := by
  rcases execPbWrite_next hst with ⟨ha, rfl⟩ | ⟨-, -, -, rfl⟩
  · have hq := h.quiet ha.2
    refine inv_of_quiet ?_ (by simpa using pbOk_pbWriteOp (s := s.start 5#4) off data h.pb)
    rw [pbWriteOp_eq off data (by simp [hq.uph])]
    exact { hq with busy := rfl }
  · exact (h.pbWriteOp off data).deliver _

/-! ### Steps -/

/-- Every request the host can present keeps the invariant (R72, R74). -/
theorem exec_decodeHost {q : HostReq} (h : Inv s) (hst : exec (decodeHost q) s = .next t) : Inv t := by
  unfold decodeHost at hst
  split at hst
  · exact h.execEncode hst
  · exact h.execSend hst
  · exact h.execInit hst
  · exact h.updateRequest hst
  · exact h.execPbRead hst
  · exact h.execPbWrite hst
  · exact h.execChkGray hst
  · exact h.execShutdown hst
  · cases hst

theorem hostStep (h : Inv s) (hst : hostStep s = .next t) : Inv t := by
  unfold Machine.hostStep at hst
  split at hst
  · exact Host.Outcome.next.inj hst ▸ h
  · exact (h.takeRequest _).exec_decodeHost hst

theorem step (h : Inv s) (hst : step s = .next t) : Inv t := by
  unfold Machine.step at hst
  split at hst
  · next hb =>
    split at hst
    · exact h.takeTurn.hostStep hst
    · exact h.takeTurn.blockStep hb hst
    · exact h.blockStep hb hst
  · exact h.hostStep hst

end Inv

end Sys2Proof.Machine
end

section
open Sys2Proof Sys2Proof.Machine

/-- Settles O46: a request of the host, a unit packed and an event of the block each keep the invariant. -/
theorem stepKeepsTheInvariant : Obligations.StepKeepsTheInvariant := fun _ _ h hst => h.step hst

/-- Settles O45: after reset the block is quiet and the PixelBuffer lists no byte. -/
theorem resetMeetsTheInvariant : Obligations.ResetMeetsTheInvariant :=
  inv_of_quiet ⟨rfl, rfl, rfl, rfl, rfl, rfl, nofun⟩ ⟨rfl, nofun⟩

/-- Settles O1: the values of R191; the default geometry gives the two sizes. -/
theorem resetIsIdleAndZeroFilled : Obligations.ResetIsIdleAndZeroFilled :=
  ⟨Memory.read_nil, rfl, rfl, rfl, rfl, rfl, rfl, rfl, rfl⟩

/-- Settles O36: the write is admitted although `BUSY` is set, and is made as between operations. -/
theorem pbWriteMayOverlapAnUpdate : Obligations.PbWriteMayOverlapAnUpdate := by
  intro s off data hv hb hu
  have hexec : exec (.pbWrite off data) s = .next ((pbWriteOp off data s).1.deliver (pbWriteOp off data s).2) :=
    execPbWrite_of_updating hv hb hu
  refine ⟨fun ho => ?_, fun ho => ?_⟩
  · rw [hexec, pbWriteOp_of_beyond ho]; rfl
  · rw [hexec, pbWriteOp_of_inside ho]
    split_ifs <;> rfl

end

section
/-! SUPPORT. The phases of an UPDATE (R24, R125, R126): the state that each of its events leaves, where a unit is packed, a
frame handed over or a buffer asked for. -/

namespace Sys2Proof.Machine

theorem length_frame_phaseSend (s : State) : (phaseSend s).frame.length = frameLength (phaseSend s).2.length :=
  encodeFrame_length_eq ..

namespace Inv

section
variable {s : State} (h : Inv s) (hu : s.uph ≠ .none)
include h hu

/-- While units wait, the block packs one and the phase stays (R125). -/
theorem packing_keeps_phase (hi : s.issue ≠ []) :
    ∃ t, Machine.blockStep s = .next t ∧ t.uph = s.uph ∧ t.busy = true ∧ t.returned = s.returned := by
  obtain ⟨i, rest, hi⟩ := List.exists_cons_of_ne_nil hi
  obtain ⟨F, -, hp⟩ := h.blockStep_packs hi
  exact ⟨_, hp, rfl, (h.updating hu).1, rfl⟩

/-- A packed frame is handed to the transport and released: an UPDATE is no ENCODE. -/
theorem event_of_updating {F : List Byte} (hw : s.wf = some F) :
    Machine.event s = Machine.afterSend (.ofAnswer (s.transportAnswer F)) (s.afterTransport F).releaseFrame :=
  event_of_packed hw (by simp [(h.updating hu).2.2])

/-- An answer OK moves a window phase on (R125). -/
theorem event_of_window_ok {F : List Byte} (hw : s.wf = some F) (ha : s.transportAnswer F = .ok) (hn : s.uph ≠ .write) :
    Machine.event s = (s.afterTransport F).releaseFrame.setPhase s.uph.successor := by
  have hwindow : s.uph = .col ∨ s.uph = .row := by
    cases hp : s.uph with
    | col => exact .inl rfl
    | row => exact .inr rfl
    | build => exact absurd ((h.noFrame hp).symm.trans hw) nofun
    | write => exact absurd hp hn
    | none => exact absurd hp hu
  rw [h.event_of_updating hu hw, ha]
  exact afterSend_ok_of_window (s := (s.afterTransport F).releaseFrame) hwindow

/-- An answer OK in U_Write ends the UPDATE (R124). -/
theorem event_of_write_ok {F : List Byte} (hw : s.wf = some F) (ha : s.transportAnswer F = .ok) (hp : s.uph = .write) :
    Machine.event s = ((s.afterTransport F).releaseFrame.releaseImage.setPhase .none).finish .ok := by
  rw [h.event_of_updating hu hw, ha]
  exact afterSend_ok_of_write (s := (s.afterTransport F).releaseFrame) hp

/-- An error of the transport is raised unchanged (R126, R161). -/
theorem event_of_send_error {F : List Byte} (hw : s.wf = some F) {e : TErr} (ha : s.transportAnswer F = .error e) :
    Machine.event s = (s.afterTransport F).releaseFrame.raise (.transportError e) := by
  rw [h.event_of_updating hu hw, ha]
  exact afterSend_error _ nofun

/-- A frame handed over: the call is logged, and its answer decides the phase (R125, R126). -/
theorem handover_decides_phase {F : List Byte} (hw : s.wf = some F) :
    (Machine.event s).tlog = s.tlog ++ [(F, s.transportAnswer F)] ∧
    (s.transportAnswer F = .ok → (Machine.event s).uph = s.uph.successor ∧
      (s.uph ≠ .write → (Machine.event s).busy = true ∧ (Machine.event s).returned = s.returned) ∧
      (s.uph = .write → (Machine.event s).busy = false ∧ (Machine.event s).returned = s.returned ++ [.ok])) ∧
    ∀ e, s.transportAnswer F = .error e → (Machine.event s).uph = .none ∧ (Machine.event s).busy = false ∧
      (Machine.event s).returned = s.returned ++ [.transportError e] := by
  cases ha : s.transportAnswer F with
  | ok =>
    by_cases hp : s.uph = .write
    · rw [h.event_of_write_ok hu hw ha hp]
      simp [ha, hp, Phase.successor]
    · rw [h.event_of_window_ok hu hw ha hp]
      simp [ha, hp, (h.updating hu).1]
  | error e =>
    rw [h.event_of_send_error hu hw ha]
    simp [ha]

end

end Inv

/-- A send phase whose WireFrame is obtained opens it, zero-filled, for its send (R125). -/
theorem event_of_frame_obtained {s : State} (hu : s.uph ≠ .none) (hw : s.wf = none) (hb : s.uph ≠ .build)
    (ha : s.allocAnswer (phaseSend s).frame.length = true) :
    event s = openFrame (phaseSymbol s.uph) (phaseSend s).2
      (s.latchSend (phaseSend s).1 (phaseSend s).2).afterAlloc := by
  rw [length_frame_phaseSend] at ha
  rw [event_of_noFrame hw, startNext_of_sendPhase hu hb, acquire_of_allocOk ha]

/-- A send phase whose WireFrame is not obtained raises AllocationError (R126). -/
theorem event_of_frame_refused {s : State} (hu : s.uph ≠ .none) (hw : s.wf = none) (hb : s.uph ≠ .build)
    (ha : s.allocAnswer (phaseSend s).frame.length = false) :
    event s = (s.latchSend (phaseSend s).1 (phaseSend s).2).afterAlloc.raise .allocationError := by
  rw [length_frame_phaseSend] at ha
  rw [event_of_noFrame hw, startNext_of_sendPhase hu hb, acquire_of_allocFails ha]

/-- U_Build whose `PI` is obtained fills it and moves on (R123, R125). -/
theorem event_of_image_obtained {s : State} (hw : s.wf = none) (hb : s.uph = .build)
    (ha : s.allocAnswer s.cfg.piSize = true) :
    event s = (s.afterAlloc.putImage s.reformatted).setPhase .write := by
  rw [event_of_noFrame hw, startNext_of_build_ok hb ha]

/-- U_Build whose `PI` is not obtained raises AllocationError (R126). -/
theorem event_of_image_refused {s : State} (hw : s.wf = none) (hb : s.uph = .build)
    (ha : s.allocAnswer s.cfg.piSize = false) : event s = s.afterAlloc.raise .allocationError := by
  rw [event_of_noFrame hw, startNext_of_build_fails hb ha]

/-- The event of a phase that asks for a buffer sends nothing. -/
theorem event_tlog_of_noFrame {s : State} (hu : s.uph ≠ .none) (hw : s.wf = none) : (event s).tlog = s.tlog := by
  by_cases hb : s.uph = .build
  · cases ha : s.allocAnswer s.cfg.piSize
    · rw [event_of_image_refused hw hb ha]; rfl
    · rw [event_of_image_obtained hw hb ha]; rfl
  · cases ha : s.allocAnswer (phaseSend s).frame.length
    · rw [event_of_frame_refused hu hw hb ha]; rfl
    · rw [event_of_frame_obtained hu hw hb ha]; rfl

end Sys2Proof.Machine
end

section
open Sys2Proof Sys2Proof.Machine

/-- Settles O55: while units wait the phase stays, the answer to a frame decides the next phase, and a phase with no
frame obtains its buffer or ends the UPDATE. -/
theorem updatePhasesFollowTheirOrder : Obligations.UpdatePhasesFollowTheirOrder := by
  intro s h hu
  have hbusy := (h.updating hu).1
  refine ⟨h.packing_keeps_phase hu, fun F _ hw => h.handover_decides_phase hu hw, event_tlog_of_noFrame hu,
    fun hw hb => ⟨fun ha => ?_, fun ha => ?_⟩, fun hw hb => ⟨fun ha => ?_, fun ha => ?_⟩⟩
  · rw [event_of_image_obtained hw hb ha]
    exact ⟨rfl, hbusy, rfl, rfl⟩
  · rw [event_of_image_refused hw hb ha]
    exact ⟨rfl, rfl, rfl⟩
  · rw [event_of_frame_obtained hu hw hb ha, length_frame_phaseSend]
    exact ⟨rfl, hbusy, rfl, rfl, rfl, rfl⟩
  · rw [event_of_frame_refused hu hw hb ha]
    exact ⟨rfl, rfl, rfl⟩

end

section
/-! SUPPORT. The PanelImage byte by byte: found from the PixelBuffer byte it shows, and from the pixel's column and row. -/

namespace Sys2Proof.Machine

theorem pbSize_of_valid {g : Config} (h : g.valid = true) : g.pbSize = g.height * g.rowBytes := by
  rw [Config.pbSize, width_of_valid h, Nat.mul_assoc, Nat.mul_div_cancel_left _ (by omega), Nat.mul_comm]

/-- The two image bytes of PixelBuffer byte `i` stand at `2 * i` (R122): its row is `i / ROW_BYTES`, its place in the
row `i mod ROW_BYTES`. -/
theorem getD_panelImage_pair {g : Config} (pixel : Nat → Byte) (hv : g.valid = true) {i h : Nat} (hi : i < g.pbSize)
    (hh : h < 2) : (panelImage g pixel).getD (2 * i + h) 0 = (pixelPair (pixel i)).getD h 0 := by
  rw [pbSize_of_valid hv] at hi
  have hrow : 0 < g.rowBytes := Nat.pos_of_ne_zero fun h0 => by simp [h0] at hi
  have hsplit : i / g.rowBytes * g.rowBytes + i % g.rowBytes = i := Nat.div_add_mod' ..
  have hplace : 2 * i + h = i / g.rowBytes * (g.rowBytes * 2) + (i % g.rowBytes * 2 + h) := by
    rw [← Nat.mul_assoc]; omega
  rw [hplace, getD_panelImage g pixel (Nat.div_lt_of_lt_mul (by rwa [Nat.mul_comm])) (Nat.mod_lt i hrow) hh, hsplit]

/-- The image byte of the pixel at column `x` of row `y` (R42, R132): the half of its PixelBuffer byte that `x mod 2`
names. -/
theorem getD_panelImage_pixel {g : Config} (pixel : Nat → Byte) (hv : g.valid = true) {x y : Nat} (hx : x < g.width)
    (hy : y < g.height) :
    (panelImage g pixel).getD (y * g.width + x) 0 = (pixelPair (pixel (y * g.rowBytes + x / 2))).getD (x % 2) 0 := by
  have hw := width_of_valid hv
  have hplace : y * g.width + x = y * (g.rowBytes * 2) + (x / 2 * 2 + x % 2) := by
    rw [hw, Nat.mul_comm 2]; omega
  rw [hplace, getD_panelImage g pixel hy (by omega) (Nat.mod_lt x (by omega))]

/-- The half of a PixelBuffer byte (R41): the high nibble is the even column's. -/
theorem getD_pixelPair (b : Byte) (x : Nat) :
    (pixelPair b).getD (x % 2) 0 = greyByte (if x % 2 = 0 then highNibble b else lowNibble b) := by
  rcases Nat.mod_two_eq_zero_or_one x with h | h <;> rw [h] <;> rfl

end Sys2Proof.Machine
end

section
open Sys2Proof Sys2Proof.Machine

/-- Settles O26: a pixel's image byte is the half of its PixelBuffer byte that its column names. -/
theorem panelImagePixelAt : Obligations.PanelImagePixelAt := by
  intro g m x y hv hx hy
  rw [getD_panelImage_pixel m.read hv hx hy, getD_pixelPair]
  rfl

/-- Settles O37: both halves of a pair are read from the contents of one moment of the phase. -/
theorem racingReadsSeeOldOrNewBytes : Obligations.RacingReadsSeeOldOrNewBytes := by
  intro s hv
  refine ⟨s.reformatted, rfl, (length_panelImage ..).trans (piSize_of_valid hv).symm, fun i hi => ?_⟩
  obtain ⟨m, hm, hread⟩ := pixelRead_mem s i
  refine ⟨m, hm, ?_⟩
  rw [← hread]
  exact ⟨getD_panelImage_pair s.pixelRead hv hi (h := 0) (by omega),
    getD_panelImage_pair s.pixelRead hv hi (h := 1) (by omega)⟩

end

section
/-! SUPPORT. The contents of `PB` (R46): what each instruction, event and step does to them. -/

namespace Sys2Proof.Machine

/-! ### Events -/

@[simp] theorem openFrame_pb (first : Instr) (p : List Byte) (s : State) : (openFrame first p s).pb = s.pb := rfl

@[simp] theorem startNext_pb (s : State) : (startNext s).pb = s.pb := by
  by_cases hu : s.uph = .none
  · by_cases hs : ∃ i, s.seq = .sending i
    · obtain ⟨i, hs⟩ := hs
      rcases startNext_of_sending hu hs with ⟨e, -, he⟩ | ⟨-, he⟩ <;> simp [he]
    · rw [startNext_of_sole hu (not_exists.1 hs)]
      split_ifs <;> simp
  · by_cases hb : s.uph = .build
    · cases ha : s.allocAnswer s.cfg.piSize
      · simp [startNext_of_build_fails hb ha]
      · simp [startNext_of_build_ok hb ha]
    · simp [startNext_of_sendPhase hu hb]

@[simp] theorem event_pb (s : State) : (event s).pb = s.pb := by
  cases hw : s.wf with
  | none => simp [event_of_noFrame hw]
  | some F =>
    by_cases ho : s.op = 0#4
    · simp [event_of_encoded hw ho]
    · simp [event_of_packed hw ho]

/-! ### Instructions -/

section
variable {s t : State}

theorem onFrame_pb {n : Nat} {f : Writer → Writer} (h : onFrame n f s = .next t) : t.pb = s.pb := by
  obtain ⟨F, -, -, rfl⟩ := onFrame_eq_next.1 h
  rfl

theorem execEncode_pb {c : Byte} {p : List Byte} (h : execEncode c p s = .next t) : t.pb = s.pb := by
  obtain ⟨-, -, rfl⟩ := execEncode_next h
  split_ifs <;> rfl

theorem execSend_pb {c : Byte} {p : List Byte} (h : execSend c p s = .next t) : t.pb = s.pb := by
  obtain ⟨-, -, rfl⟩ := execSend_next h
  split_ifs <;> simp

theorem execInit_pb (h : execInit s = .next t) : t.pb = s.pb := by
  obtain ⟨-, -, rfl⟩ := execInit_next h
  split_ifs <;> simp

theorem updateRequest_pb (h : updateRequest s = .next t) : t.pb = s.pb := by
  obtain ⟨-, -, -, rfl⟩ := updateRequest_next h
  split_ifs <;> simp

theorem execDecode_pb {F : List Byte} (h : execDecode F s = .next t) : t.pb = s.pb := by
  unfold execDecode at h
  split at h
  · exact Host.Outcome.next.inj h ▸ rfl
  · cases h

/-- An internal operation refused outside its limits keeps what its effect keeps. -/
theorem pb_of_ite_refused {c : Prop} [Decidable c] {r : Refusal} {x : State}
    (h : (if c then (.next x : Reply) else .refused r) = .next t) (hx : x.pb = s.pb) : t.pb = s.pb := by
  split_ifs at h
  exact Host.Outcome.next.inj h ▸ hx

/-- No instruction but PB_WRITE and the host write path changes `PB` (R46). -/
theorem exec_pb {i : Instr} (hp : ∀ off data, i ≠ .pbWrite off data) (hh : ∀ off data, i ≠ .hostWrite off data)
    (h : exec i s = .next t) : t.pb = s.pb := by
  cases hu : unitOf s.cfg i with
  | some e => exact onFrame_pb ((exec_of_unitOf hu).symm.trans h)
  | none =>
    cases i with
    | encode c p => exact execEncode_pb h
    | send c p => exact execSend_pb h
    | init => exact execInit_pb h
    | update => exact updateRequest_pb h
    | pbRead off cnt => obtain ⟨-, rfl⟩ := execPbRead_next h; rfl
    | pbWrite off data => exact absurd rfl (hp off data)
    | chkGray v => obtain ⟨-, rfl⟩ := execChkGray_next h; rfl
    | shutdown => obtain ⟨-, rfl⟩ := execShutdown_next h; rfl
    | reservedHop x => cases h
    | writeBit b => exact onFrame_pb (show execWriteBit b s = .next t from h)
    | writeByte v => exact onFrame_pb (show execWriteByte v s = .next t from h)
    | writeUnit d v => exact onFrame_pb (show packUnit d v s = .next t from h)
    | reformat => exact Host.Outcome.next.inj h ▸ rfl
    | setColWin => exact pb_of_ite_refused h (sendOp_pb ..)
    | setRowWin => exact pb_of_ite_refused h (sendOp_pb ..)
    | writeRam => exact pb_of_ite_refused h (writeRamOp_pb s)
    | decode F => exact execDecode_pb h
    | hostWrite off data => exact absurd rfl (hh off data)
    | transportSend F => exact Host.Outcome.next.inj h ▸ rfl
    | _ => simp [unitOf, Instr.command?] at hu

/-! ### Steps -/

/-- The host write path has no selector: HOSTWRITE is the glue above the port (R72, R145). -/
theorem decodeHost_ne_hostWrite (q : HostReq) (off : Nat) (data : List Byte) : decodeHost q ≠ .hostWrite off data := by
  unfold decodeHost
  split <;> nofun

theorem hostStep_pb (hp : ∀ q rest off data, s.port = q :: rest → decodeHost q ≠ .pbWrite off data)
    (h : hostStep s = .next t) : t.pb = s.pb := by
  unfold hostStep at h
  split at h
  · exact Host.Outcome.next.inj h ▸ rfl
  · next q rest hport =>
    exact exec_pb (s := s.takeRequest rest) (fun off data => hp q rest off data hport) (decodeHost_ne_hostWrite q) h

/-- The block itself only packs units and runs events. -/
theorem Inv.blockStep_pb (hinv : Inv s) (h : Machine.blockStep s = .next t) : t.pb = s.pb := by
  cases hi : s.issue with
  | nil =>
    have he : Machine.blockStep s = .next (Machine.event s) := by simp [Machine.blockStep, hi]
    exact Host.Outcome.next.inj (he.symm.trans h) ▸ event_pb s
  | cons i rest =>
    obtain ⟨F, -, hpack⟩ := hinv.blockStep_packs hi
    exact Host.Outcome.next.inj (hpack.symm.trans h) ▸ rfl

/-- A step that serves no PB_WRITE of the host leaves `PB` alone (R46). -/
theorem Inv.step_pb (hinv : Inv s)
    (hp : HostsTurn s → ∀ q rest off data, s.port = q :: rest → decodeHost q ≠ .pbWrite off data)
    (h : Machine.step s = .next t) : t.pb = s.pb := by
  unfold Machine.step at h
  split at h
  · split at h
    · next turns hsched => exact hostStep_pb (s := s.takeTurn) (hp (.inr ⟨turns, hsched⟩)) h
    · exact hinv.takeTurn.blockStep_pb h
    · exact hinv.blockStep_pb h
  · next hb => exact hostStep_pb (hp (.inl (Bool.eq_false_of_not_eq_true hb))) h

end

end Sys2Proof.Machine
end

section
open Sys2Proof Sys2Proof.Machine

/-- Settles O50: instructions, events and steps in turn. -/
theorem onlyHostWritesChangeThePixelBuffer : Obligations.OnlyHostWritesChangeThePixelBuffer :=
  ⟨fun _ _ _ hp hh h => exec_pb hp hh h, event_pb,
    fun _ _ hinv h hp => hinv.step_pb (fun hturn q rest off data => hp q rest off data hturn) h⟩

end

section
/-! SUPPORT. An operation with the block to itself (R53, R125): where its events lead when no request of the host lands
among them. -/

namespace Sys2Proof.Machine

/-! ### Runs and the schedule -/

/-- `t` is reached from `s` by steps that each answer a next state. -/
abbrev Steps (s t : State) : Prop := Relation.ReflTransGen (fun u v => step u = .next v) s t

theorem run_succ_of_step {s u : State} (h : step s = .next u) (n : Nat) : core.run (n + 1) s = core.run n u := by
  have hcore : core.step s = .next u := h
  simp only [Host.Core.run, hcore]

theorem Steps.head {s u t : State} (hst : step s = .next u) (h : Steps u t) : Steps s t :=
  Relation.ReflTransGen.head hst h

theorem Steps.tail {s u t : State} (h : Steps s u) (hst : step u = .next t) : Steps s t :=
  Relation.ReflTransGen.tail h hst

theorem Steps.exists_run {s t : State} (h : Steps s t) : ∃ n, core.run n s = .next t := by
  induction h using Relation.ReflTransGen.head_induction_on with
  | refl => exact ⟨0, rfl⟩
  | head hst _ ih =>
    obtain ⟨n, hn⟩ := ih
    exact ⟨n + 1, (run_succ_of_step hst n).trans hn⟩

/-- The interleaving replaced. -/
def State.withSched (s : State) (turns : List Turn) : State := { s with sched := turns }

theorem State.withSched_self {s : State} {turns : List Turn} (h : s.sched = turns) : s.withSched turns = s := by
  subst h; rfl

/-- An operation is in progress and no turn is scheduled: the block goes on by itself. -/
structure Alone (s : State) : Prop where
  busy  : s.busy = true
  sched : s.sched = []

theorem Alone.step {s : State} (h : Alone s) : step s = blockStep s := by simp [Machine.step, h.busy, h.sched]

theorem Alone.step_event {s : State} (h : Alone s) (hi : s.issue = []) : Machine.step s = .next (event s) := by
  rw [h.step, blockStep, hi]

/-- A turn of the block scheduled first changes nothing but the schedule. -/
theorem Alone.steps_withSched {s t : State} (h : Alone s) (hst : Steps s t) (ht : t.busy = false) :
    Steps (s.withSched [.block]) t := by
  rcases hst.cases_head with rfl | ⟨u, hu, hst⟩
  · exact absurd (h.busy.symm.trans ht) nofun
  · refine .head ?_ hst
    have hturn : (s.withSched [.block]).takeTurn = s := State.withSched_self h.sched
    have hstep : Machine.step (s.withSched [.block]) = blockStep (s.withSched [.block]).takeTurn := by
      simp [Machine.step, State.withSched, h.busy]
    rw [hstep, hturn, ← h.step, hu]

/-! ### Packing and sending -/

/-- The units that wait are packed one by one. -/
theorem Alone.steps_packing {s : State} (h : Alone s) (is : List Instr)
    (hu : ∀ i ∈ is, (unitOf s.cfg i).isSome = true) :
    ∀ w : Writer, w.cursor + 9 * is.length ≤ 8 * w.buf.length →
      Steps ((s.setIssue is).putWriter w) ((s.setIssue []).putWriter (is.foldl (packIssued s.cfg) w)) := by
  induction is with
  | nil => exact fun w _ => .refl
  | cons i is ih =>
    intro w hroom
    rw [List.length_cons] at hroom
    obtain ⟨⟨d, v⟩, hd⟩ := Option.isSome_iff_exists.1 (hu i (by simp))
    have hpack : packIssued s.cfg w i = w.writeUnit d v := by simp [packIssued, hd]
    have halone : Alone ((s.setIssue (i :: is)).putWriter w) := { h with }
    have hstep : Machine.step ((s.setIssue (i :: is)).putWriter w) =
        .next ((s.setIssue is).putWriter (w.writeUnit d v)) :=
      halone.step.trans ((exec_of_unitOf (s := (s.setIssue is).putWriter w) hd).trans
        (onFrame_of_room rfl (by simp; omega)))
    rw [List.foldl_cons, hpack]
    exact .head hstep (ih (fun j hj => hu j (by simp [hj])) _ (by simp; omega))

/-- A WireFrame opened for a command and a payload is packed to its encoding (R83). -/
theorem Alone.steps_openFrame {s : State} (h : Alone s) {first : Instr} {c : Byte}
    (hf : unitOf s.cfg first = some (discCmd, c)) (p : List Byte) :
    Steps (openFrame first p s) ((s.setIssue []).putWriter (encodeWriter c p)) := by
  have hunits : ∀ i ∈ first :: p.map .datu, (unitOf s.cfg i).isSome = true := by
    simp only [List.forall_mem_cons, List.forall_mem_map, hf]
    exact ⟨rfl, fun _ _ => rfl⟩
  have hroom : (Writer.start p.length).cursor + 9 * (first :: p.map .datu).length ≤
      8 * (Writer.start p.length).buf.length := by
    simp [Writer.start, frameLength]; omega
  have hfold : (first :: p.map .datu).foldl (packIssued s.cfg) (Writer.start p.length) = encodeWriter c p := by
    rw [List.foldl_cons, foldl_packIssued_datu, packIssued, hf, encodeWriter]
  exact hfold ▸ h.steps_packing _ hunits _ hroom

/-- Between two sends of an operation other than ENCODE: the next event begins one. -/
structure BetweenSends (s : State) : Prop extends Alone s where
  wf    : s.wf = none
  issue : s.issue = []
  op    : s.op ≠ 0#4

namespace BetweenSends

variable {s : State}

theorem setPhase (h : BetweenSends s) (u : Phase) : BetweenSends (s.setPhase u) := { h with }

theorem setSeq (h : BetweenSends s) (q : Seq) : BetweenSends (s.setSeq q) := { h with }

theorem sendOp (h : BetweenSends s) (c : Byte) (p : List Byte) : BetweenSends (sendOp c p s).1 :=
  ⟨⟨by simp [h.busy], by simp [h.sched]⟩, sendOp_wf c p h.wf, sendOp_issue c p h.issue, by simp [h.op]⟩

theorem step_startNext (h : BetweenSends s) : step s = .next (startNext s) := by
  rw [h.step_event h.issue, event_of_noFrame h.wf]

/-- The events of one send lead to what SEND does at once, and then to what follows the send (R101). -/
theorem steps_send (h : BetweenSends s) {first : Instr} {c : Byte} {p : List Byte}
    (hnext : startNext s = acquire first c p s) (hf : unitOf s.cfg first = some (discCmd, c)) :
    Steps s (afterSend (Machine.sendOp c p s).2 (Machine.sendOp c p s).1) := by
  have hstep : step s = .next (acquire first c p s) := h.step_startNext.trans (congrArg _ hnext)
  cases ha : s.allocAnswer (frameLength p.length)
  · rw [sendOp_of_allocFails ha, afterSend_error (r := .allocationError) _ nofun, ← acquire_of_allocFails ha]
    exact .single hstep
  · rw [acquire_of_allocOk ha] at hstep
    have halone : Alone (s.latchSend c p).afterAlloc := { h with }
    let packed := ((s.latchSend c p).afterAlloc.setIssue []).putWriter (encodeWriter c p)
    have hpacked : Alone packed := { h with }
    have hsent : step packed = .next (event packed) := hpacked.step_event rfl
    rw [event_of_packed (s := packed) rfl h.op] at hsent
    rw [sendOp_of_allocOk ha]
    exact (Steps.head hstep (halone.steps_openFrame hf p)).tail hsent

end BetweenSends

/-! ### From the first event to the last, operation by operation -/

/-- With no buffer, no phase and no INIT entry left, raising an error is returning it (R164). -/
theorem raise_eq_finish {s : State} (h : NoBuffers s) (hu : s.uph = .none) (hs : ∀ i, s.seq ≠ .sending i) (r : Result) :
    s.raise r = s.finish r := by
  have hseq := raise_seq_of_not_sending r hs
  apply State.ext <;> simp [-State.raise_seq, hseq, h.wf, h.issue, h.pi, h.pbOld, hu]

/-- A SEND of the host returns whatever its send answers (R101, R102). -/
theorem afterSend_of_sole {s : State} (h : NoBuffers s) (hu : s.uph = .none) (hs : ∀ i, s.seq ≠ .sending i)
    (r : Result) :
    afterSend r s = s.finish r := by
  by_cases hr : r = .ok
  · rw [hr, afterSend_ok_of_sole hu hs]
  · rw [afterSend_error s hr, raise_eq_finish h hu hs]

/-- ENCODE: its frame is opened, packed and returned (R83). -/
theorem steps_encode {s : State} (h : Alone s) (hi : s.issue = []) (hw : s.wf = none) (ho : s.op = 0#4)
    (hu : s.uph = .none) (hs : ∀ i, s.seq ≠ .sending i) :
    Steps s (encodeOp s.cmd s.payload s) := by
  have hopen : step s = .next (openFrame (.cmdu s.cmd) s.payload s) := by
    rw [h.step_event hi, event_of_noFrame hw, startNext_of_sole hu hs, if_pos ho]
  let packed := (s.setIssue []).putWriter (encodeWriter s.cmd s.payload)
  have hpacked : Alone packed := { h with }
  have hreturned : step packed = .next (event packed) := hpacked.step_event rfl
  rw [event_of_encoded (s := packed) rfl ho] at hreturned
  exact (Steps.head hopen (h.steps_openFrame rfl s.payload)).tail hreturned

/-- INIT from entry `i` on: the rest of the table is sent entry by entry, up to the first error (R107, R108). -/
theorem steps_init (table : List (Byte × List Byte)) :
    ∀ (i : Nat) (s : State), s.cfg.initTable.drop i = table → BetweenSends s → s.uph = .none →
      Steps (initNext i s) (concludeInit (initFrom i table s)) := by
  induction table with
  | nil =>
    intro i s hdrop _ _
    have hlast : ¬i < s.cfg.nInit := by simpa [Config.nInit] using List.drop_eq_nil_iff.1 hdrop
    rw [initNext, if_neg hlast]
    exact .refl
  | cons e rest ih =>
    obtain ⟨c, p⟩ := e
    intro i s hdrop h hu
    have hentry : s.cfg.initTable[i]? = some (c, p) := by
      rw [← List.head?_drop, hdrop]; rfl
    have hrest : s.cfg.initTable.drop (i + 1) = rest := by
      rw [← List.tail_drop, hdrop]; rfl
    have hi : i < s.cfg.nInit := (List.getElem?_eq_some_iff.1 hentry).1
    have hnext : startNext (s.setSeq (.sending i)) = acquire (.cmdu c) c p (s.setSeq (.sending i)) := by
      simp [startNext, hu, hentry]
    have hsend := (h.setSeq (.sending i)).steps_send hnext rfl
    rw [initNext, if_pos hi, initFrom_cons]
    split_ifs with hr
    · rw [hr, afterSend_ok_of_sending (i := i) (by simp [hu]) (by simp)] at hsend
      exact hsend.trans (ih (i + 1) _ (by simpa using hrest) ((h.setSeq _).sendOp c p) (by simp [hu]))
    · rwa [afterSend_error _ hr, ← concludeInit_error hr] at hsend

/-- The RAM write of an UPDATE: `PI` is obtained and filled, its frame sent, and the UPDATE concluded (R123, R125). -/
theorem steps_writeRam {s : State} (h : BetweenSends s) :
    Steps (s.setPhase .build) (concludeUpdate (writeRamOp s)) := by
  have hb := h.setPhase .build
  cases ha : s.allocAnswer s.cfg.piSize
  · rw [writeRamOp_of_allocFails ha, concludeUpdate_error (by simp)]
    exact .single (hb.step_startNext.trans (congrArg _ (startNext_of_build_fails rfl ha)))
  · let filled := ((s.setPhase .build).afterAlloc.putImage (s.setPhase .build).reformatted).setPhase .write
    have hfill : step (s.setPhase .build) = .next filled :=
      hb.step_startNext.trans (congrArg _ (startNext_of_build_ok rfl ha))
    have hfilled : BetweenSends filled := { h with }
    have hsend := hfilled.steps_send (startNext_of_sendPhase nofun nofun) (unitOf_phaseSymbol filled)
    have hram : writeRamOp s = ((sendOp (phaseSend filled).1 (phaseSend filled).2 filled).1.releaseImage,
        (sendOp (phaseSend filled).1 (phaseSend filled).2 filled).2) := by
      rw [writeRamOp, buildOp_of_allocOk (by simpa using ha)]; rfl
    rw [hram]
    refine .head hfill ?_
    by_cases hr : (sendOp (phaseSend filled).1 (phaseSend filled).2 filled).2 = .ok
    · rw [hr, afterSend_ok_of_write (by simp [filled])] at hsend
      rwa [concludeUpdate_ok (by exact hr)]
    · rw [afterSend_error _ hr] at hsend
      rwa [concludeUpdate_error (by exact hr)]

end Sys2Proof.Machine
end

section
/-! SUPPORT. The host operations run event by event against the single transition (R53): one lemma per operation, then all
of them. -/

namespace Sys2Proof.Machine

/-- UPDATE's sends one after the other (R124): the first that fails ends it. -/
theorem updateOp_eq (s : State) :
    updateOp s =
      if (setColWinOp (s.setPhase .col)).2 = .ok then
        if (setRowWinOp ((setColWinOp (s.setPhase .col)).1.setPhase .row)).2 = .ok then
          writeRamOp (setRowWinOp ((setColWinOp (s.setPhase .col)).1.setPhase .row)).1
        else setRowWinOp ((setColWinOp (s.setPhase .col)).1.setPhase .row)
      else setColWinOp (s.setPhase .col) := by
  unfold updateOp
  split
  · next h =>
    rw [h, if_pos rfl]
    split
    · next h => rw [h, if_pos rfl]
    · next hr => rw [if_neg fun e => hr _ (Prod.ext rfl e)]
  · next hr => rw [if_neg fun e => hr _ (Prod.ext rfl e)]

/-- A window send of an UPDATE leads to the next phase, or to the error it ends with (R124, R126). -/
theorem steps_window {s : State} (h : BetweenSends s) (hu : s.uph = .col ∨ s.uph = .row) :
    Steps s (if (sendOp (phaseSend s).1 (phaseSend s).2 s).2 = .ok then
        (sendOp (phaseSend s).1 (phaseSend s).2 s).1.setPhase s.uph.successor
      else concludeUpdate (sendOp (phaseSend s).1 (phaseSend s).2 s)) := by
  have hn : s.uph ≠ .none := by rcases hu with hu | hu <;> simp [hu]
  have hb : s.uph ≠ .build := by rcases hu with hu | hu <;> simp [hu]
  have hsend := h.steps_send (startNext_of_sendPhase hn hb) (unitOf_phaseSymbol s)
  split_ifs with hr
  · rwa [hr, afterSend_ok_of_window (by simpa using hu), sendOp_uph] at hsend
  · rwa [afterSend_error _ hr, ← concludeUpdate_error hr] at hsend

/-- UPDATE: the events of its phases in order, up to the first error (R124, R125). -/
theorem steps_update {s : State} (h : BetweenSends s) :
    Steps (s.setPhase .col) (concludeUpdate (updateOp s)) := by
  let inRow := (setColWinOp (s.setPhase .col)).1.setPhase .row
  have hinRow : BetweenSends inRow := ((h.setPhase .col).sendOp _ _).setPhase .row
  have hcol : Steps (s.setPhase .col) (if (setColWinOp (s.setPhase .col)).2 = .ok then inRow
      else concludeUpdate (setColWinOp (s.setPhase .col))) := steps_window (h.setPhase .col) (.inl rfl)
  have hrow : Steps inRow (if (setRowWinOp inRow).2 = .ok then (setRowWinOp inRow).1.setPhase .build
      else concludeUpdate (setRowWinOp inRow)) := steps_window hinRow (.inr rfl)
  rw [updateOp_eq]
  by_cases hc : (setColWinOp (s.setPhase .col)).2 = .ok
  · rw [if_pos hc] at hcol ⊢
    refine hcol.trans ?_
    by_cases hr : (setRowWinOp inRow).2 = .ok
    · rw [if_pos hr] at hrow ⊢
      exact hrow.trans (steps_writeRam (hinRow.sendOp _ _))
    · rw [if_neg hr] at hrow ⊢
      exact hrow
  · rw [if_neg hc] at hcol ⊢
    exact hcol

/-! ### The single transition and the events -/

/-- Scheduled, `i` leads from `s` to `t` event by event, but for what is left of the schedule. -/
def ReachedByEvents (i : Instr) (s t : State) : Prop :=
  ∃ u turns, exec i (s.withSched [.block]) = .next u ∧ Steps u (t.withSched turns)

/-- An operation of one event takes no notice of the schedule. -/
theorem reachedByEvents_of_once {i : Instr} {s t : State}
    (h : exec i (s.withSched [.block]) = .next (t.withSched [.block])) : ReachedByEvents i s t :=
  ⟨_, _, h, .refl⟩

/-- An operation of several events begins, and its events lead on. -/
theorem reachedByEvents_of_begun {i : Instr} {s u t : State}
    (h : exec i (s.withSched [.block]) = .next (u.withSched [.block])) (hu : Alone u) (hst : Steps u t)
    (ht : t.busy = false) : ReachedByEvents i s t :=
  ⟨_, t.sched, h, hu.steps_withSched hst ht⟩

section
variable {s t : State}

theorem admission_withSched (ha : Admits s) : (s.withSched [.block]).admission = none := admission_eq_none.2 ha

theorem execPbRead_reachedByEvents {off cnt : Nat} (h : execPbRead off cnt s = .next t) :
    ReachedByEvents (.pbRead off cnt) s t := by
  obtain ⟨ha, rfl⟩ := execPbRead_next h
  exact reachedByEvents_of_once (by simp only [exec, execPbRead, admission_withSched ha]; rfl)

theorem execChkGray_reachedByEvents {v : Nat} (h : execChkGray v s = .next t) : ReachedByEvents (.chkGray v) s t := by
  obtain ⟨ha, rfl⟩ := execChkGray_next h
  exact reachedByEvents_of_once (by simp only [exec, execChkGray, admission_withSched ha]; rfl)

theorem execShutdown_reachedByEvents (h : execShutdown s = .next t) : ReachedByEvents .shutdown s t := by
  obtain ⟨ha, rfl⟩ := execShutdown_next h
  exact reachedByEvents_of_once (by simp only [exec, execShutdown, admission_withSched ha]; rfl)

theorem pbWriteOp_withSched (off : Nat) (data : List Byte) (s : State) (turns : List Turn) :
    pbWriteOp off data (s.withSched turns) = ((pbWriteOp off data s).1.withSched turns, (pbWriteOp off data s).2) := by
  rcases Nat.lt_or_ge s.cfg.pbSize off with ho | ho
  · rw [pbWriteOp_of_beyond ho, pbWriteOp_of_beyond (s := s.withSched turns) ho]; rfl
  · rw [pbWriteOp_of_inside ho, pbWriteOp_of_inside (s := s.withSched turns) ho]
    by_cases hu : s.uph = .build
    · rw [if_pos hu, if_pos (by exact hu)]; rfl
    · rw [if_neg hu, if_neg (by exact hu)]; rfl

theorem execPbWrite_reachedByEvents {off : Nat} {data : List Byte} (hb : s.busy = false)
    (h : execPbWrite off data s = .next t) : ReachedByEvents (.pbWrite off data) s t := by
  rcases execPbWrite_next h with ⟨ha, rfl⟩ | ⟨-, hbusy, -⟩
  · have hwrite := pbWriteOp_withSched off data (s.start 5#4) [.block]
    refine reachedByEvents_of_once ?_
    simp only [exec, execPbWrite, admission_withSched ha]
    exact congrArg (fun r : State × Result => Host.Outcome.next (r.1.finish r.2)) hwrite
  · exact absurd (hb.symm.trans hbusy) nofun

section
variable (hq : Quiet s) (hw : HostWaits s)
include hq hw

/-- An operation other than ENCODE that has begun on a quiet block is about to send. -/
theorem betweenSends_start {op : Selector} (ho : op ≠ 0#4) : BetweenSends (s.start op) :=
  ⟨⟨rfl, hw⟩, hq.wf, hq.issue, ho⟩

theorem execEncode_reachedByEvents {c : Byte} {p : List Byte} (h : execEncode c p s = .next t) :
    ReachedByEvents (.encode c p) s t := by
  obtain ⟨ha, hl, rfl⟩ := execEncode_next h
  have halone : Alone ((s.start 0#4).latchSend c p) := ⟨rfl, hw⟩
  have hbegin : exec (.encode c p) (s.withSched [.block]) =
      .next (((s.start 0#4).latchSend c p).withSched [.block]) := by
    simp only [exec, execEncode, admission_withSched ha]
    exact if_pos hl
  rw [if_pos (List.isEmpty_iff.2 hw)]
  exact reachedByEvents_of_begun hbegin halone (steps_encode halone hq.issue hq.wf rfl hq.uph hq.seq) rfl

theorem execSend_reachedByEvents {c : Byte} {p : List Byte} (h : execSend c p s = .next t) :
    ReachedByEvents (.send c p) s t := by
  obtain ⟨ha, hl, rfl⟩ := execSend_next h
  have hstart := betweenSends_start hq hw (op := 1#4) (by decide)
  have hlatched : BetweenSends ((s.start 1#4).latchSend c p) := { hstart with }
  have hbegin : exec (.send c p) (s.withSched [.block]) =
      .next (((s.start 1#4).latchSend c p).withSched [.block]) := by
    simp only [exec, execSend, admission_withSched ha]
    exact if_pos hl
  have hnext : startNext ((s.start 1#4).latchSend c p) = acquire (.cmdu c) c p ((s.start 1#4).latchSend c p) :=
    startNext_of_sole hq.uph hq.seq
  have hsend : Steps ((s.start 1#4).latchSend c p)
      (afterSend (sendOp c p (s.start 1#4)).2 (sendOp c p (s.start 1#4)).1) := hlatched.steps_send hnext rfl
  have hbuffers : NoBuffers (s.start 1#4) := { hq.noBuffers with }
  rw [afterSend_of_sole (hbuffers.sendOp c p) (by simp [hq.uph]) (by simpa using hq.seq)] at hsend
  rw [if_pos (List.isEmpty_iff.2 hw)]
  exact reachedByEvents_of_begun hbegin hlatched.toAlone hsend rfl

theorem execInit_reachedByEvents (h : execInit s = .next t) : ReachedByEvents .init s t := by
  obtain ⟨ha, hf, rfl⟩ := execInit_next h
  have hstart := betweenSends_start hq hw (op := 2#4) (by decide)
  have hsteps := steps_init _ 0 (s.start 2#4) List.drop_zero hstart hq.uph
  have hquiet := quiet_concludeInit { hq.noBuffers with } hq.uph s.cfg.initTable (s := s.start 2#4)
  have hbegin : exec .init (s.withSched [.block]) = .next (initNext 0 ((s.start 2#4).withSched [.block])) := by
    simp only [exec, execInit, admission_withSched ha]
    exact if_pos hf
  rw [if_pos (List.isEmpty_iff.2 hw)]
  by_cases h0 : 0 < s.cfg.nInit
  · rw [initNext, if_pos (by exact h0)] at hbegin hsteps
    exact reachedByEvents_of_begun (u := (s.start 2#4).setSeq (.sending 0)) hbegin (hstart.setSeq _).toAlone hsteps
      hquiet.busy
  · have hnil : s.cfg.initTable = [] := by simpa [Config.nInit] using h0
    rw [initNext, if_neg (by exact h0)] at hbegin
    rw [hnil]
    exact reachedByEvents_of_once hbegin

theorem updateRequest_reachedByEvents (h : updateRequest s = .next t) : ReachedByEvents .update s t := by
  obtain ⟨ha, hr, hf, rfl⟩ := updateRequest_next h
  have hstart := betweenSends_start hq hw (op := 3#4) (by decide)
  have hquiet : Quiet (concludeUpdate (updateOp (s.start 3#4))) := quiet_concludeUpdate { hq.noBuffers with } hq.seq
  have hbegin : exec .update (s.withSched [.block]) = .next (((s.start 3#4).setPhase .col).withSched [.block]) := by
    simp only [exec, execUpdate, updateRequest, admission_withSched ha]
    exact (if_pos hr).trans (if_pos hf)
  rw [if_pos (List.isEmpty_iff.2 hw)]
  exact reachedByEvents_of_begun hbegin (hstart.setPhase _).toAlone (steps_update hstart) hquiet.busy

/-- Every request that a quiet block serves reaches, event by event, what it answers at once (R53). -/
theorem exec_decodeHost_reachedByEvents {q : HostReq} (h : exec (decodeHost q) s = .next t) :
    ReachedByEvents (decodeHost q) s t := by
  revert h
  unfold decodeHost
  split
  · exact execEncode_reachedByEvents hq hw
  · exact execSend_reachedByEvents hq hw
  · exact execInit_reachedByEvents hq hw
  · exact updateRequest_reachedByEvents hq hw
  · exact execPbRead_reachedByEvents
  · exact execPbWrite_reachedByEvents hq.busy
  · exact execChkGray_reachedByEvents
  · exact execShutdown_reachedByEvents
  · exact nofun

end

end

/-- An idle block serves the next request of the host (R72). -/
theorem step_of_idle {s : State} {q : HostReq} {rest : List HostReq} (hb : s.busy = false) (hp : s.port = q :: rest) :
    step s = exec (decodeHost q) (s.takeRequest rest) := by
  simp [step, hb, hostStep, hp]

end Sys2Proof.Machine
end

section
open Sys2Proof Sys2Proof.Machine

/-- Settles O53: the scheduled request begins the operation, and the block's own steps lead to the transaction's result. -/
theorem eventsReachTheTransactionResult : Obligations.EventsReachTheTransactionResult := by
  intro s t hq hw hport hst
  obtain ⟨q, rest, hp⟩ := List.exists_cons_of_ne_nil hport
  rw [step_of_idle hq.busy hp] at hst
  have hquiet : Quiet (s.takeRequest rest) := { hq with }
  obtain ⟨u, turns, hbegin, hsteps⟩ := exec_decodeHost_reachedByEvents hquiet hw hst
  obtain ⟨n, hrun⟩ := hsteps.exists_run
  have hfirst : step (s.withSched [.block]) = .next u := (step_of_idle (s := s.withSched [.block]) hq.busy hp).trans hbegin
  exact ⟨n, turns, (run_succ_of_step hfirst n).trans hrun⟩

end

section
/-! SUPPORT. The bits of a unit in a frame: where ENCODE puts them (R62), and what packing one unit does (R82). -/

namespace Sys2Proof

open Sys2Proof.Machine (unitBit)

theorem getD_unitBitList (d : Bool) (v : Byte) {j : Nat} (h : j < 9) :
    (unitBitList d v).getD j false = unitBit d v j := by
  cases j with
  | zero => rfl
  | succ j => simpa [unitBitList, unitBit] using getD_byteBits v j (by omega)

/-- Bit `j` of the unit of payload byte `k` stands at `9 * k + j` of the payload's bits. -/
theorem getD_flatMap_unitBitList {payload : List Byte} {j : Nat} (hj : j < 9) : ∀ {k : Nat}, k < payload.length →
    (payload.flatMap (unitBitList discData)).getD (9 * k + j) false = unitBit true (payload.getD k 0) j := by
  induction payload with
  | nil => exact fun hk => absurd hk (Nat.not_lt_zero _)
  | cons v vs ih =>
    intro k hk
    rw [List.flatMap_cons]
    cases k with
    | zero => rw [List.getD_append _ _ _ _ (by simp; omega), Nat.mul_zero, Nat.zero_add, getD_unitBitList _ _ hj]; rfl
    | succ k =>
      rw [List.getD_append_right _ _ _ _ (by simp; omega), length_unitBitList,
        show 9 * (k + 1) + j - 9 = 9 * k + j by omega, ih (Nat.lt_of_succ_lt_succ hk), List.getD_cons_succ]

/-- Unit 0 of a frame is the command's (R62). -/
theorem streamBit_encodeFrame_command (c : Byte) (p : List Byte) {j : Nat} (hj : j < 9) :
    streamBit (encodeFrame c p) j = unitBit false c j := by
  rw [streamBit_encodeFrame, frameBits, List.getD_append _ _ _ _ hj, getD_unitBitList _ _ hj]

/-- Unit `k + 1` of a frame is that of payload byte `k` (R62). -/
theorem streamBit_encodeFrame_payload (c : Byte) (p : List Byte) {k j : Nat} (hk : k < p.length) (hj : j < 9) :
    streamBit (encodeFrame c p) (9 * (k + 1) + j) = unitBit true (p.getD k 0) j := by
  rw [streamBit_encodeFrame, frameBits, List.getD_append_right _ _ _ _ (by simp; omega), length_unitBitList,
    show 9 * (k + 1) + j - 9 = 9 * k + j by omega, getD_flatMap_unitBitList hj hk]

/-- After its units a frame has pad bits only, each 0 (R62, R64). -/
theorem streamBit_encodeFrame_pad (c : Byte) (p : List Byte) {n : Nat} (hn : 9 * (1 + p.length) ≤ n) :
    streamBit (encodeFrame c p) n = false := by
  rw [streamBit_encodeFrame, List.getD_eq_default _ _ (by rwa [length_frameBits])]

end Sys2Proof

namespace Sys2Proof.Machine

/-- WRITE_UNIT puts the unit's nine bits at the cursor and leaves every other position alone (R82). -/
theorem packsUnitAt_writeUnit {F : List Byte} {c : Nat} (d : Bool) (v : Byte) (h : c + 9 ≤ 8 * F.length) :
    PacksUnitAt F (Writer.writeUnit ⟨F, c⟩ d v).buf c d v := by
  have hbit : ∀ p, streamBit (Writer.writeUnit ⟨F, c⟩ d v).buf p =
      if c ≤ p then streamBit F p || (unitBitList d v).getD (p - c) false else streamBit F p := fun p =>
    Writer.streamBit_writeBits (unitBitList d v) ⟨F, c⟩ p h
  refine ⟨writeUnit_length .., fun j hj => ?_, fun p hp => ?_⟩
  · rw [hbit, if_pos (Nat.le_add_right c j), Nat.add_sub_cancel_left, getD_unitBitList d v hj]
  · rw [hbit]
    rcases hp with hp | hp
    · rw [if_neg (Nat.not_le.2 hp)]
    · rw [if_pos (by omega), List.getD_eq_default _ _ (by simp; omega), Bool.or_false]

/-- An instruction that stands for a unit packs it at the cursor when there is room (R60, R82). -/
theorem exec_packsUnitAt {i : Instr} {s : State} {F : List Byte} {d : Bool} {v : Byte} (hu : unitOf s.cfg i = some (d, v))
    (hw : s.wf = some F) (hroom : s.cursor + 9 ≤ 8 * F.length) :
    ∃ F', exec i s = .next { s with wf := some F', cursor := s.cursor + 9 } ∧ PacksUnitAt F F' s.cursor d v :=
  ⟨_, (exec_of_unitOf hu).trans (onFrame_of_room hw hroom), packsUnitAt_writeUnit d v hroom⟩

theorem unitOf_of_command {i : Instr} {c : Cmd} (g : Config) (h : i.command? = some c) :
    unitOf g i = some (discCmd, g.opcode c) := by
  unfold unitOf
  split
  case h_3 => simp only [h, Option.map_some]
  all_goals cases h

end Sys2Proof.Machine
end

section
/-! SUPPORT. What a reserved selector and a command symbol's word stand for (R72, R60), and who acts in a step (R25). -/

namespace Sys2Proof

theorem decodeHost_of_reserved {q : HostReq} (h : 8 ≤ q.op.toNat) : decodeHost q = .reservedHop (q.op.setWidth 3) := by
  unfold decodeHost
  split
  case h_9 => rfl
  all_goals omega

/-- A command symbol's word is the command unit of its opcode. -/
theorem encode_of_command {i : Instr} {c : Cmd} (g : Config) (h : i.command? = some c) :
    encode g i = .unit (commandUnit (g.opcode c)) := by
  unfold encode
  split
  case h_12 => simp only [h]
  all_goals cases h

theorem canonical_of_command {i : Instr} {c : Cmd} (g : Config) (h : i.command? = some c) :
    i.canonical g = some (.cmdu (g.opcode c)) := by
  unfold Instr.canonical
  split
  case h_11 => simp only [h]
  all_goals cases h

end Sys2Proof

namespace Sys2Proof.Machine

/-! ### Who acts in a step -/

theorem step_of_host {s : State} {turns : List Turn} (hb : s.busy = true) (hs : s.sched = .host :: turns) :
    step s = hostStep (s.withSched turns) := by
  simp [step, hb, hs, State.takeTurn, State.withSched]

theorem step_of_block {s : State} {turns : List Turn} (hb : s.busy = true) (hs : s.sched = .block :: turns) :
    step s = blockStep (s.withSched turns) := by
  simp [step, hb, hs, State.takeTurn, State.withSched]

theorem hostStep_of_request {s : State} {q : HostReq} {rest : List HostReq} (hp : s.port = q :: rest) :
    hostStep s = exec (decodeHost q) (s.takeRequest rest) := by
  rw [hostStep, hp]

theorem hostStep_of_noRequest {s : State} (hp : s.port = []) : hostStep s = .next s := by
  rw [hostStep, hp]

theorem blockStep_of_waiting {s : State} {i : Instr} {waiting : List Instr} (hi : s.issue = i :: waiting) :
    blockStep s = exec i (s.setIssue waiting) := by
  rw [blockStep, hi]

end Sys2Proof.Machine
end

section
open Sys2Proof Sys2Proof.Machine

/-- Settles O5: a command symbol stands for the command unit of its opcode. -/
theorem commandSymbolsPackTheirOpcode : Obligations.CommandSymbolsPackTheirOpcode :=
  fun _ _ s _ hc hw hroom => exec_packsUnitAt (unitOf_of_command s.cfg hc) hw hroom

/-- Settles O8: the frame's bits are its units' bits in order, then zeros. -/
theorem wireFrameLayout : Obligations.WireFrameLayout := fun c p =>
  ⟨encodeFrame_length_eq c p, fun _ hj => streamBit_encodeFrame_command c p hj,
    fun _ _ hk hj => streamBit_encodeFrame_payload c p hk hj, fun _ hn => streamBit_encodeFrame_pad c p hn⟩

/-- Settles O44: a command symbol's word is the unit CMDU has for its opcode; any other word carries the operands it decodes to. -/
theorem wordsDecodeToTheirInstruction : Obligations.WordsDecodeToTheirInstruction := by
  intro g i
  cases hc : i.command? with
  | some c =>
    rw [encode_of_command g hc, canonical_of_command g hc]
    exact congrArg some (decodeUnit_commandUnit (g.opcode c))
  | none =>
    cases i with
    | cmdu c => exact Laws.RoundTrip.cmdu c g
    | datu d => exact Laws.RoundTrip.datu d g
    | reservedHop x => exact Laws.RoundTrip.reservedHop x g
    | encode | send | init | update | pbRead | pbWrite | chkGray | shutdown => rfl
    | writeBit | writeByte | writeUnit | reformat | setColWin | setRowWin | writeRam | decode | hostWrite
    | transportSend => rfl
    | _ => cases hc

/-- Settles O40: the reserved selectors decode to RESERVED_HOP, which every state refuses. -/
theorem reservedSelectorsAreRefused : Obligations.ReservedSelectorsAreRefused := by
  intro q s h
  rw [decodeHost_of_reserved h]
  rfl

/-- Settles O42: `BUSY` and the schedule say who acts; the port or the units that wait say what is executed. -/
theorem stepRunsTheDecodedInstruction : Obligations.StepRunsTheDecodedInstruction := by
  refine ⟨fun s q rest => step_of_idle, fun s hb hp => ?_, fun s q rest turns hb hs hp => ?_,
    fun s i waiting turns hb hs hi => ?_, fun s i waiting hb hs hi => ?_⟩
  · rw [step, hb]
    exact hostStep_of_noRequest hp
  · exact (step_of_host hb hs).trans (hostStep_of_request hp)
  · exact (step_of_block hb hs).trans (blockStep_of_waiting hi)
  · exact (Alone.mk hb hs).step.trans (blockStep_of_waiting hi)

/-- Settles O43: each word evaluated. -/
theorem writtenOutWordsDecode : Obligations.WrittenOutWordsDecode :=
  ⟨rfl, rfl, rfl, rfl, rfl, rfl, rfl, rfl, rfl, rfl, rfl⟩

end

section
/-! SUPPORT. Frames through their streams: a byte sequence is determined by its stream bits. What DECODE reads (R90), the
round trip (R91), longer payloads (R93) and the closed form (R84) are each shown bit by bit. -/

namespace Sys2Proof

open Sys2Proof.Machine (unitBit)

/-! ### A sequence is its stream -/

/-- Bit `i` of byte `m` stands at position `8 * m + (7 - i)` of the stream (R10). -/
theorem getLsbD_getD_eq_streamBit (F : List Byte) (m : Nat) {i : Nat} (hi : i < 8) :
    (F.getD m 0).getLsbD i = streamBit F (8 * m + (7 - i)) := by
  rw [streamBit, show (8 * m + (7 - i)) / 8 = m by omega, show 7 - (8 * m + (7 - i)) % 8 = i by omega]

/-- Sequences whose streams agree up to a byte boundary have the same bytes there. -/
theorem take_eq_of_streamBit {F G : List Byte} {m : Nat} (hF : m ≤ F.length) (hG : m ≤ G.length)
    (h : ∀ n, n < 8 * m → streamBit F n = streamBit G n) : F.take m = G.take m := by
  refine List.ext_getElem (by simp [hF, hG]) fun k hk _ => ?_
  have hkm : k < m := (List.length_take_le ..).trans_lt' hk
  have hbyte : F.getD k 0 = G.getD k 0 := BitVec.eq_of_getLsbD_eq fun i hi => by
    rw [getLsbD_getD_eq_streamBit F k hi, getLsbD_getD_eq_streamBit G k hi, h _ (by omega)]
  rwa [List.getElem_take, List.getElem_take, ← List.getD_eq_getElem _ 0, ← List.getD_eq_getElem _ 0]

theorem eq_of_streamBit {F G : List Byte} (hl : F.length = G.length)
    (h : ∀ n, n < 8 * F.length → streamBit F n = streamBit G n) : F = G := by
  have htake := take_eq_of_streamBit le_rfl hl.le h
  rwa [List.take_length, hl, List.take_length] at htake

/-! ### Bits appended at the cursor -/

namespace Writer

/-- Position `j` after the cursor takes the `j`th appended bit. -/
theorem streamBit_writeBits_inside {w : Writer} {bits : List Bool} (h : w.cursor + bits.length ≤ 8 * w.buf.length)
    (j : Nat) :
    streamBit (w.writeBits bits).buf (w.cursor + j) = (streamBit w.buf (w.cursor + j) || bits.getD j false) := by
  rw [streamBit_writeBits bits w _ h, if_pos (Nat.le_add_right ..), Nat.add_sub_cancel_left]

theorem streamBit_writeBits_outside {w : Writer} {bits : List Bool} (h : w.cursor + bits.length ≤ 8 * w.buf.length)
    {p : Nat} (hp : p < w.cursor ∨ w.cursor + bits.length ≤ p) : streamBit (w.writeBits bits).buf p = streamBit w.buf p := by
  rw [streamBit_writeBits bits w p h]
  rcases hp with hp | hp
  · rw [if_neg (Nat.not_le.2 hp)]
  · rw [if_pos (by omega), List.getD_eq_default _ _ (by omega), Bool.or_false]

end Writer

/-! ### The value of a unit -/

/-- R90's sum of shifted bits is the byte with those bits, most significant first. -/
theorem unitValue_eq_ofBoolListBE (F : List Byte) (k : Nat) :
    unitValue F k = BitVec.ofBoolListBE ((List.range 8).map fun j => streamBit F (9 * k + 1 + j)) := by
  have hsum : ∀ b₀ b₁ b₂ b₃ b₄ b₅ b₆ b₇ : Bool,
      BitVec.ofNat 8 [b₀.toNat <<< 7, b₁.toNat <<< 6, b₂.toNat <<< 5, b₃.toNat <<< 4, b₄.toNat <<< 3, b₅.toNat <<< 2,
        b₆.toNat <<< 1, b₇.toNat <<< 0].sum = BitVec.ofBoolListBE [b₀, b₁, b₂, b₃, b₄, b₅, b₆, b₇] := by decide
  exact hsum ..

/-- `v_k` of R90 holds the eight bits after the unit's discriminator, most significant first. -/
theorem getLsbD_unitValue (F : List Byte) (k : Nat) {j : Nat} (hj : j < 8) :
    (unitValue F k).getLsbD (7 - j) = streamBit F (9 * k + 1 + j) := by
  have hm : (unitValue F k).getMsbD j = ((List.range 8).map fun j => streamBit F (9 * k + 1 + j)).getD j false :=
    (congrArg (BitVec.getMsbD · j) (unitValue_eq_ofBoolListBE F k)).trans BitVec.getMsbD_ofBoolListBE
  simpa [BitVec.getMsbD, hj] using hm

/-- The nine bits of unit `k`: its discriminator, then its value (R60, R90). -/
theorem streamBit_unit {F : List Byte} {k : Nat} {d : Bool} (hd : streamBit F (9 * k) = d) {j : Nat} (hj : j < 9) :
    streamBit F (9 * k + j) = unitBit d (unitValue F k) j := by
  cases j with
  | zero => exact hd
  | succ j =>
    rw [show 9 * k + (j + 1) = 9 * k + 1 + j by omega, ← getLsbD_unitValue F k (by omega)]
    simp [unitBit]

/-- A unit whose nine bits are those of a value has that value. -/
theorem unitValue_eq {F : List Byte} {k : Nat} {d : Bool} {v : Byte}
    (h : ∀ j, j < 9 → streamBit F (9 * k + j) = unitBit d v j) : unitValue F k = v := by
  refine BitVec.eq_of_getLsbD_eq fun i hi => ?_
  have hbit := getLsbD_unitValue F k (j := 7 - i) (by omega)
  rw [show 7 - (7 - i) = i by omega, show 9 * k + 1 + (7 - i) = 9 * k + (8 - i) by omega, h _ (by omega)] at hbit
  rw [hbit, unitBit, if_neg (by omega), show 8 - (8 - i) = i by omega]

/-! ### The checks of DECODE -/

theorem badFrameLength_iff {n : Nat} : badFrameLength n = true ↔ n < 2 ∨ n % 9 = 1 := by simp [badFrameLength]

theorem laterUnitBad_iff {F : List Byte} :
    laterUnitBad F = true ↔ ∃ k, 1 ≤ k ∧ k < unitCount F.length ∧ streamBit F (9 * k) = false := by
  simp only [laterUnitBad, List.any_eq_true, List.mem_range, Bool.not_eq_true']
  constructor
  · rintro ⟨i, hi, hb⟩
    exact ⟨i + 1, by omega, by omega, hb⟩
  · rintro ⟨k, hk, hu, hb⟩
    exact ⟨k - 1, by omega, by rwa [Nat.sub_add_cancel hk]⟩

theorem padBad_iff {F : List Byte} :
    padBad F = true ↔ ∃ n, 9 * unitCount F.length ≤ n ∧ n < 8 * F.length ∧ streamBit F n = true := by
  simp only [padBad, List.any_eq_true, List.mem_range]
  constructor
  · rintro ⟨i, hi, hb⟩
    exact ⟨_, Nat.le_add_right .., by omega, hb⟩
  · rintro ⟨n, hu, hn, hb⟩
    exact ⟨n - 9 * unitCount F.length, by omega, by rwa [Nat.add_sub_cancel' hu]⟩

theorem laterUnitBad_eq_false_iff {F : List Byte} :
    laterUnitBad F = false ↔ ∀ k, 1 ≤ k → k < unitCount F.length → streamBit F (9 * k) = true := by
  simp [← Bool.not_eq_true, laterUnitBad_iff]

theorem padBad_eq_false_iff {F : List Byte} :
    padBad F = false ↔ ∀ n, 9 * unitCount F.length ≤ n → n < 8 * F.length → streamBit F n = false := by
  simp [← Bool.not_eq_true, padBad_iff]

/-- R73's frames, in terms of the checks of R90. -/
theorem isFrame_iff {F : List Byte} :
    isFrame F = true ↔
      badFrameLength F.length = false ∧ streamBit F 0 = false ∧ laterUnitBad F = false ∧ padBad F = false := by
  simp [isFrame, badFrameLength, and_assoc, Nat.succ_le_iff]

/-- The payload DECODE reads (R90): the values of the units after the first. -/
def decodedPayload (F : List Byte) : List Byte := (List.range (unitCount F.length - 1)).map fun i => unitValue F (i + 1)

theorem length_decodedPayload (F : List Byte) : (decodedPayload F).length = unitCount F.length - 1 := by
  simp [decodedPayload]

theorem getD_decodedPayload {F : List Byte} {k : Nat} (hk : k < unitCount F.length - 1) :
    (decodedPayload F).getD k 0 = unitValue F (k + 1) := by
  rw [List.getD_eq_getElem _ _ (by rwa [length_decodedPayload])]
  simp [decodedPayload]

theorem decodeFrame_of_isFrame {F : List Byte} (h : isFrame F = true) :
    decodeFrame F = .ok (unitValue F 0, decodedPayload F) := by
  obtain ⟨hl, hd, hu, hp⟩ := isFrame_iff.1 h
  simp [decodeFrame, hl, hd, hu, hp, decodedPayload]

/-! ### The round trip (R91) -/

/-- A frame holds the units it was made for (R65). -/
theorem unitCount_frameLength (l : Nat) : unitCount (frameLength l) = 1 + l := by
  unfold unitCount frameLength; omega

/-- A length that is some frame's is that of the units it holds (R62, R65). -/
theorem frameLength_unitCount {n : Nat} (h : badFrameLength n = false) : frameLength (unitCount n - 1) = n := by
  rw [← Bool.not_eq_true, badFrameLength_iff] at h
  have hu : unitCount n = 8 * (n / 9) + (n % 9 - 1) := by unfold unitCount; omega
  unfold frameLength
  omega

/-- What ENCODE makes is a well-formed WireFrame (R73). -/
theorem isFrame_encodeFrame (c : Byte) (p : List Byte) : isFrame (encodeFrame c p) = true := by
  refine isFrame_iff.2 ⟨?_, streamBit_encodeFrame_command c p (j := 0) (by omega), ?_, ?_⟩
  · rw [← Bool.not_eq_true, badFrameLength_iff, encodeFrame_length_eq, frameLength]; omega
  · rw [laterUnitBad_eq_false_iff, encodeFrame_length_eq, unitCount_frameLength]
    intro k hk hu
    obtain ⟨k, rfl⟩ := Nat.exists_eq_add_of_le' hk
    exact streamBit_encodeFrame_payload c p (j := 0) (by omega) (by omega)
  · rw [padBad_eq_false_iff, encodeFrame_length_eq, unitCount_frameLength]
    exact fun n hn _ => streamBit_encodeFrame_pad c p hn

theorem unitValue_encodeFrame_zero (c : Byte) (p : List Byte) : unitValue (encodeFrame c p) 0 = c :=
  unitValue_eq fun j hj => by rw [Nat.mul_zero, Nat.zero_add, streamBit_encodeFrame_command c p hj]

theorem decodedPayload_encodeFrame (c : Byte) (p : List Byte) : decodedPayload (encodeFrame c p) = p := by
  have hu : unitCount (encodeFrame c p).length - 1 = p.length := by
    rw [encodeFrame_length_eq, unitCount_frameLength, Nat.add_sub_cancel_left]
  refine List.ext_getElem (by rw [length_decodedPayload, hu]) fun k hk hkp => ?_
  rw [← List.getD_eq_getElem _ 0 hk, getD_decodedPayload (by rwa [hu]), ← List.getD_eq_getElem _ 0 hkp]
  exact unitValue_eq fun j hj => streamBit_encodeFrame_payload c p hkp hj

theorem decodeFrame_encodeFrame (c : Byte) (p : List Byte) : decodeFrame (encodeFrame c p) = .ok (c, p) := by
  rw [decodeFrame_of_isFrame (isFrame_encodeFrame c p), unitValue_encodeFrame_zero, decodedPayload_encodeFrame]

/-- A well-formed frame has no freedom beyond its units' values: discriminators, pad bits and length are fixed (R73). -/
theorem encodeFrame_decoded {F : List Byte} (h : isFrame F = true) :
    encodeFrame (unitValue F 0) (decodedPayload F) = F := by
  obtain ⟨hl, hd, hu, hp⟩ := isFrame_iff.1 h
  rw [laterUnitBad_eq_false_iff] at hu
  rw [padBad_eq_false_iff] at hp
  have hpos : 1 ≤ unitCount F.length := by
    rw [← Bool.not_eq_true, badFrameLength_iff] at hl
    unfold unitCount; omega
  have hlen := length_decodedPayload F
  have hF : (encodeFrame (unitValue F 0) (decodedPayload F)).length = F.length := by
    rw [encodeFrame_length_eq, hlen, frameLength_unitCount hl]
  refine eq_of_streamBit hF fun n hn => ?_
  rw [hF] at hn
  have hj : n % 9 < 9 := Nat.mod_lt _ (by omega)
  rcases Nat.lt_or_ge n (9 * unitCount F.length) with hunit | hpad
  · rw [← Nat.div_add_mod n 9]
    rcases hk : n / 9 with _ | k
    · rw [streamBit_unit (F := F) (k := 0) hd hj, Nat.mul_zero, Nat.zero_add, streamBit_encodeFrame_command _ _ hj]
    · rw [streamBit_unit (hu (k + 1) (by omega) (by omega)) hj, streamBit_encodeFrame_payload _ _ (by omega) hj,
        getD_decodedPayload (by omega)]
  · rw [hp n hpad hn, streamBit_encodeFrame_pad _ _ (by omega)]

/-! ### Longer payloads (R93) and the closed form (R84) -/

theorem frameBits_append (c : Byte) (p q : List Byte) :
    frameBits c (p ++ q) = frameBits c p ++ q.flatMap (unitBitList discData) := by
  simp [frameBits]

/-- Extending a payload leaves the bits before the new units as they are. -/
theorem streamBit_encodeFrame_append (c : Byte) (p q : List Byte) {n : Nat} (hn : n < 9 * (1 + p.length)) :
    streamBit (encodeFrame c (p ++ q)) n = streamBit (encodeFrame c p) n := by
  rw [streamBit_encodeFrame, streamBit_encodeFrame, frameBits_append,
    List.getD_append _ _ _ _ (by rwa [length_frameBits])]

/-- The bits of a command unit's 9-bit value, most significant first (R60). -/
theorem testBit_commandUnit (c : Byte) {j : Nat} (hj : j < 9) :
    (commandUnit c).toNat.testBit (8 - j) = unitBit false c j := by
  rw [← BitVec.getLsbD, commandUnit]
  cases j with
  | zero => simp [unitBit]
  | succ j => simp [unitBit]; omega

/-- The bits of a data unit's 9-bit value, most significant first (R60). -/
theorem testBit_dataUnit (v : Byte) {j : Nat} (hj : j < 9) :
    (dataUnit v).toNat.testBit (8 - j) = unitBit true v j := by
  rw [← BitVec.getLsbD, dataUnit, show (256 : WireUnit) = BitVec.twoPow 9 8 from rfl, BitVec.getLsbD_or,
    BitVec.getLsbD_twoPow]
  cases j with
  | zero => simp [unitBit]
  | succ j => simp [unitBit, show 8 ≠ 7 - j by omega, show 7 - j < 9 by omega]

theorem unitsNumber_concat (c : Byte) (p : List Byte) (v : Byte) :
    unitsNumber c (p ++ [v]) = 2 ^ 9 * unitsNumber c p + (dataUnit v).toNat := by
  simp [unitsNumber, Nat.mul_comm]

/-- The units' number has the units' bits, first bit most significant (R84). -/
theorem testBit_unitsNumber (c : Byte) (p : List Byte) : ∀ {n : Nat}, n < 9 * (1 + p.length) →
    (unitsNumber c p).testBit (9 * (1 + p.length) - 1 - n) = (frameBits c p).getD n false := by
  induction p using List.reverseRecOn with
  | nil => exact fun hn => (testBit_commandUnit c hn).trans (getD_unitBitList false c hn).symm
  | append_singleton p v ih =>
    intro n hn
    rw [List.length_append, List.length_singleton] at hn ⊢
    rw [unitsNumber_concat, Nat.testBit_two_pow_mul_add _ (dataUnit v).isLt, frameBits_append]
    rcases Nat.lt_or_ge n (9 * (1 + p.length)) with hlt | hge
    · rw [if_neg (by omega), List.getD_append _ _ _ _ (by rwa [length_frameBits]), ← ih hlt]
      congr 1; omega
    · have hj : n - 9 * (1 + p.length) < 9 := by omega
      rw [if_pos (by omega), List.getD_append_right _ _ _ _ (by rwa [length_frameBits]), length_frameBits,
        List.flatMap_singleton, getD_unitBitList _ _ hj, ← testBit_dataUnit v hj]
      congr 1; omega

theorem length_closedFormFrame (c : Byte) (p : List Byte) : (closedFormFrame c p).length = frameLength p.length := by
  simp [closedFormFrame]

/-- The stream of the closed form is the number shifted over the pad bits, read from its most significant bit (R84). -/
theorem streamBit_closedFormFrame (c : Byte) (p : List Byte) {n : Nat} (hn : n < 8 * frameLength p.length) :
    streamBit (closedFormFrame c p) n =
      (unitsNumber c p <<< (8 * frameLength p.length - 9 * (1 + p.length))).testBit (8 * frameLength p.length - 1 - n) := by
  have hm : n / 8 < frameLength p.length := by omega
  rw [streamBit, List.getD_eq_getElem _ _ (by rwa [length_closedFormFrame])]
  simp only [closedFormFrame, List.getElem_map, List.getElem_range, BitVec.getLsbD_ofNat, Nat.testBit_shiftRight]
  rw [show 8 * (frameLength p.length - 1 - n / 8) + (7 - n % 8) = 8 * frameLength p.length - 1 - n by omega]
  simp; omega

theorem encodeFrame_eq_closedFormFrame (c : Byte) (p : List Byte) : encodeFrame c p = closedFormFrame c p := by
  refine eq_of_streamBit (by rw [encodeFrame_length_eq, length_closedFormFrame]) fun n hn => ?_
  rw [encodeFrame_length_eq] at hn
  have hroom : 9 * (1 + p.length) ≤ 8 * frameLength p.length := by unfold frameLength; omega
  rw [streamBit_closedFormFrame c p hn, Nat.testBit_shiftLeft]
  rcases Nat.lt_or_ge n (9 * (1 + p.length)) with hunit | hpad
  · rw [streamBit_encodeFrame, ← testBit_unitsNumber c p hunit, decide_eq_true (by omega), Bool.true_and]
    congr 1; omega
  · rw [streamBit_encodeFrame_pad c p hpad, decide_eq_false (by omega), Bool.false_and]

end Sys2Proof

namespace Sys2Proof.Machine

/-! ### The packing sub-operations, ENCODE, SEND and DECODE -/

theorem exec_writeBit (b : Bool) (s : State) : exec (.writeBit b) s = onFrame 1 (·.writeBit b) s := rfl

theorem exec_writeByte (v : Byte) (s : State) : exec (.writeByte v) s = onFrame 8 (·.writeByte v) s := rfl

theorem exec_writeUnit (d : Bool) (v : Byte) (s : State) : exec (.writeUnit d v) s = onFrame 9 (·.writeUnit d v) s := rfl

theorem execDecode_of_isFrame {F : List Byte} {s : State} (h : isFrame F = true) :
    execDecode F s = .next (s.deliver (.okDecoded (unitValue F 0) (decodedPayload F))) := by
  rw [execDecode, decodeFrame_of_isFrame h]

theorem execDecode_of_error {F : List Byte} {s : State} {e : FrameReject} (h : decodeFrame F = .error e) :
    execDecode F s = .refused (Refusal.ofReject e) := by
  rw [execDecode, h]

/-- An admitted ENCODE decides by the payload's length (R83, R85). -/
theorem execEncode_of_admits {c : Byte} {p : List Byte} {s : State} (h : Admits s) :
    execEncode c p s =
      if p.length ≤ s.cfg.lMax then
        .next (if s.sched.isEmpty then encodeOp c p (s.start 0#4) else (s.start 0#4).latchSend c p)
      else .refused .payloadTooLong := by
  rw [execEncode, admission_eq_none.2 h]

theorem execSend_of_overlong {c : Byte} {p : List Byte} {s : State} (h : Admits s) (hp : s.cfg.lMax < p.length) :
    execSend c p s = .refused .payloadTooLong := by
  simp [execSend, admission_eq_none.2 h, hp]

/-- The whole effect of ENCODE on an idle block (R83). -/
theorem encodeOp_start (c : Byte) (p : List Byte) {s : State} (hb : s.busy = false) :
    encodeOp c p (s.start 0#4) = { s with
      op := 0#4, cmd := c, payload := p, cursor := 9 * (1 + p.length), wf := none, issue := []
      returned := s.returned ++ [.okFrame (encodeFrame c p)] } := by
  ext1 <;> simp [encodeOp, hb, encodeFrame]

end Sys2Proof.Machine
end

section
open Sys2Proof Sys2Proof.Machine

/-- Settles O10: a frame and its command and payload determine each other, bit by bit. -/
theorem decodeInvertsEncode : Obligations.DecodeInvertsEncode :=
  ⟨decodeFrame_encodeFrame, fun _ h => ⟨_, _, decodeFrame_of_isFrame h, encodeFrame_decoded h⟩⟩

/-- Settles O2: one bit is packed where there is room for it. -/
theorem writeBitSetsTheBitAtTheCursor : Obligations.WriteBitSetsTheBitAtTheCursor := by
  intro s F b hw hroom
  have hbit := fun p => Writer.streamBit_writeBit ⟨F, s.cursor⟩ b p hroom
  refine ⟨_, (exec_writeBit b s).trans (onFrame_of_room hw hroom), Writer.writeBit_length .., ?_, fun p hp => ?_⟩
  · rw [hbit, if_pos rfl]
  · rw [hbit, if_neg hp]

/-- Settles O3: WRITE_BYTE appends the byte's bits, bit 7 first. -/
theorem writeByteWritesMostSignificantBitFirst : Obligations.WriteByteWritesMostSignificantBitFirst := by
  intro s F v hw hroom
  refine ⟨_, (exec_writeByte v s).trans (onFrame_of_room hw hroom), writeByte_length .., fun j hj => ?_, fun p hp => ?_⟩
  · rw [writeByte_eq, Writer.streamBit_writeBits_inside (w := ⟨F, s.cursor⟩) (bits := byteBits v) hroom, getD_byteBits v j hj]
  · rw [writeByte_eq, Writer.streamBit_writeBits_outside (w := ⟨F, s.cursor⟩) (bits := byteBits v) hroom hp]

/-- Settles O4: WRITE_UNIT, CMDU and DATU all pack one unit. -/
theorem unitsArePackedAtTheCursor : Obligations.UnitsArePackedAtTheCursor := fun s _ d v hw hroom =>
  ⟨⟨_, (exec_writeUnit d v s).trans (onFrame_of_room hw hroom), packsUnitAt_writeUnit d v hroom⟩,
    exec_packsUnitAt rfl hw hroom, exec_packsUnitAt rfl hw hroom⟩

/-- Settles O9: both sides have the same length and the same stream. -/
theorem encodeEqualsItsClosedForm : Obligations.EncodeEqualsItsClosedForm := encodeFrame_eq_closedFormFrame

/-- Settles O11: the streams agree up to the new units, so the bytes before them do. -/
theorem extendingAPayloadAppends : Obligations.ExtendingAPayloadAppends := by
  intro c p q
  refine ⟨take_eq_of_streamBit ?_ ?_ fun n hn => ?_, fun n => streamBit_encodeFrame_append c p q⟩
  · rw [encodeFrame_length_eq, frameLength, List.length_append]; omega
  · rw [encodeFrame_length_eq, frameLength]; omega
  · exact streamBit_encodeFrame_append c p q (by omega)

/-- Settles O14: every check of DECODE passes on a frame. -/
theorem decodeReturnsCommandAndPayload : Obligations.DecodeReturnsCommandAndPayload := fun _ F h =>
  ⟨execDecode_of_isFrame h, fun k _ => getLsbD_unitValue F k⟩

/-- Settles O15: the checks that come before the one that fails are passed. -/
theorem decodeRefusesMalformedFrames : Obligations.DecodeRefusesMalformedFrames := by
  intro s F
  have hlen : 2 ≤ F.length → F.length % 9 ≠ 1 → badFrameLength F.length = false := fun h2 h9 => by
    rw [← Bool.not_eq_true, badFrameLength_iff]; omega
  refine ⟨fun h => execDecode_of_error (e := .badLength) ?_,
    fun h2 h9 hd => execDecode_of_error (e := .firstUnitNotCommand) ?_,
    fun h2 h9 hd hk => execDecode_of_error (e := .laterUnitNotData) ?_,
    fun h2 h9 hd hk hp => execDecode_of_error (e := .nonzeroPad) ?_⟩
  · simp [decodeFrame, badFrameLength_iff.2 h]
  · simp [decodeFrame, hlen h2 h9, hd]
  · simp [decodeFrame, hlen h2 h9, hd, laterUnitBad_iff.2 hk]
  · simp [decodeFrame, hlen h2 h9, hd, laterUnitBad_eq_false_iff.2 hk, padBad_iff.2 hp]

/-- Settles O6: each packing sub-operation asks for the room it writes to. -/
theorem packingStopsOutsideTheFrame : Obligations.PackingStopsOutsideTheFrame := by
  refine ⟨fun s b v => ?_, fun s i hu => ?_⟩
  · rw [exec_writeBit, exec_writeByte, exec_writeUnit]
    exact ⟨fun hw => ⟨onFrame_of_noFrame hw, onFrame_of_noFrame hw, onFrame_of_noFrame hw⟩, fun F hw =>
      ⟨fun hc => onFrame_of_pastEnd hw (Nat.lt_succ_of_le hc), onFrame_of_pastEnd hw, onFrame_of_pastEnd hw⟩⟩
  · obtain ⟨_, hu⟩ := Option.isSome_iff_exists.1 hu
    exact ⟨fun hw => (exec_of_unitOf hu).trans (onFrame_of_noFrame hw),
      fun F hw hc => (exec_of_unitOf hu).trans (onFrame_of_pastEnd hw hc)⟩

/-- Settles O7: nine bits a unit, rounded up to bytes. -/
theorem encodeLengthLaw : Obligations.EncodeLengthLaw := by
  intro c p
  rw [encodeFrame_length_eq, frameLength]
  omega

/-- Settles O12: an admitted ENCODE of a payload that fits packs, returns and releases the frame. -/
theorem encodeReturnsTheFrame : Obligations.EncodeReturnsTheFrame := by
  intro s c p ha hs hp
  refine (execEncode_of_admits ha).trans ?_
  rw [if_pos hp, if_pos (List.isEmpty_iff.2 hs), encodeOp_start c p ha.2]

/-- Settles O13: the payload's length is checked before anything is encoded or drawn. -/
theorem overlongPayloadsAreRefused : Obligations.OverlongPayloadsAreRefused := fun _ _ _ ha hp =>
  ⟨(execEncode_of_admits ha).trans (if_neg (Nat.not_le.2 hp)), execSend_of_overlong ha hp⟩

end

section
/-! SUPPORT. The transport's log (R33): the one event that adds to it is the handing over of a packed frame, and
all that any operation adds to it is encodings. -/

namespace Sys2Proof.Machine

/-! ### The events that send nothing -/

/-- What the next event without a WireFrame is: a buffer is asked for, ENCODE's frame is opened, or INIT moves on. -/
theorem startNext_cases (s : State) :
    (∃ first c p, startNext s = acquire first c p s) ∨
    (∃ i, s.seq = .sending i ∧ startNext s = initNext i s) ∨
    startNext s = openFrame (.cmdu s.cmd) s.payload s ∨
    startNext s = (s.afterAlloc.putImage s.reformatted).setPhase .write ∨
    startNext s = s.afterAlloc.raise .allocationError := by
  by_cases hu : s.uph = .none
  · by_cases hs : ∃ i, s.seq = .sending i
    · obtain ⟨i, hs⟩ := hs
      rcases startNext_of_sending hu hs with ⟨e, -, he⟩ | ⟨-, he⟩
      · exact .inl ⟨_, _, _, he⟩
      · exact .inr (.inl ⟨i, hs, he⟩)
    · have he := startNext_of_sole hu (not_exists.1 hs)
      split_ifs at he
      · exact .inr (.inr (.inl he))
      · exact .inl ⟨_, _, _, he⟩
  · by_cases hb : s.uph = .build
    · cases ha : s.allocAnswer s.cfg.piSize
      · exact .inr (.inr (.inr (.inr (startNext_of_build_fails hb ha))))
      · exact .inr (.inr (.inr (.inl (startNext_of_build_ok hb ha))))
    · exact .inl ⟨_, _, _, startNext_of_sendPhase hu hb⟩

@[simp] theorem initNext_tlog (i : Nat) (s : State) : (initNext i s).tlog = s.tlog := by
  unfold initNext; split_ifs <;> rfl

@[simp] theorem afterSend_tlog (r : Result) (s : State) : (afterSend r s).tlog = s.tlog := by
  by_cases hr : r = .ok
  · subst hr
    cases hu : s.uph with
    | col => simp [afterSend_ok_of_window (.inl hu)]
    | row => simp [afterSend_ok_of_window (.inr hu)]
    | build => simp [afterSend_ok_of_build hu]
    | write => simp [afterSend_ok_of_write hu]
    | none =>
      by_cases hs : ∃ i, s.seq = .sending i
      · obtain ⟨i, hs⟩ := hs
        simp [afterSend_ok_of_sending hu hs]
      · simp [afterSend_ok_of_sole hu (not_exists.1 hs)]
  · simp [afterSend_error s hr]

@[simp] theorem acquire_tlog (first : Instr) (c : Byte) (p : List Byte) (s : State) :
    (acquire first c p s).tlog = s.tlog := by
  cases ha : s.allocAnswer (frameLength p.length)
  · simp [acquire_of_allocFails ha]
  · rw [acquire_of_allocOk ha]; rfl

/-- With no WireFrame to hand over, an event sends nothing. -/
@[simp] theorem startNext_tlog (s : State) : (startNext s).tlog = s.tlog := by
  rcases startNext_cases s with ⟨_, _, _, h⟩ | ⟨_, _, h⟩ | h | h | h <;> rw [h]
  · exact acquire_tlog ..
  · exact initNext_tlog ..
  all_goals rfl

/-! ### The operations that send nothing of their own -/

@[simp] theorem concludeInit_tlog (r : State × Result) : (concludeInit r).tlog = r.1.tlog := by
  unfold concludeInit; split <;> rfl

@[simp] theorem concludeUpdate_tlog (r : State × Result) : (concludeUpdate r).tlog = r.1.tlog := by
  unfold concludeUpdate; split <;> rfl

@[simp] theorem pbWriteOp_tlog (off : Nat) (data : List Byte) (s : State) :
    (pbWriteOp off data s).1.tlog = s.tlog := by
  rcases Nat.lt_or_ge s.cfg.pbSize off with ho | ho
  · rw [pbWriteOp_of_beyond ho]; rfl
  · rw [pbWriteOp_of_inside ho]; split_ifs <;> rfl

/-- With no unit left to pack, the WireFrame is the encoding of the latched operands (R83). -/
theorem Inv.eq_encodeFrame_of_packed {s : State} (h : Inv s) {F : List Byte} (hw : s.wf = some F) (hi : s.issue = []) :
    F = encodeFrame s.cmd s.payload := by
  have hpack := (h.packing F hw).2
  rw [hi] at hpack
  exact congrArg Writer.buf hpack

/-! ### Operations and steps keep the log well formed -/

namespace LogOk

variable {s t : State}

theorem of_tlog_eq (h : LogOk s) (ht : t.tlog = s.tlog) : LogOk t := fun e he => h e (ht ▸ he)

theorem afterTransport (h : LogOk s) {F : List Byte} (hF : isFrame F = true) : LogOk (s.afterTransport F) :=
  List.forall_mem_append.2 ⟨h, List.forall_mem_singleton.2 hF⟩

/-- A send hands over an encoding, or nothing (R101, R73). -/
theorem sendOp (h : LogOk s) (c : Byte) (p : List Byte) : LogOk (sendOp c p s).1 := by
  cases ha : s.allocAnswer (frameLength p.length)
  · rw [sendOp_of_allocFails ha]; exact h
  · have hlatched : LogOk (((s.latchSend c p).afterAlloc).putWriter (encodeWriter c p)) := h
    rw [sendOp_of_allocOk ha]
    exact hlatched.afterTransport (isFrame_encodeFrame c p)

theorem initFrom (h : LogOk s) (i : Nat) (table : List (Byte × List Byte)) : LogOk (initFrom i table s).1 :=
  initFrom_induct (P := LogOk) (fun _ _ h => h) (fun c p _ h => h.sendOp c p) table i s h

theorem writeRamOp (h : LogOk s) : LogOk (writeRamOp s).1 := by
  rcases writeRamOp_cases s with e | ⟨image, e⟩ <;> rw [e]
  · exact h
  · have hfilled : LogOk (((s.setPhase .build).afterAlloc.putImage image).setPhase .write) := h
    exact hfilled.sendOp _ _

theorem updateOp (h : LogOk s) : LogOk (updateOp s).1 := by
  have hcol : LogOk (setColWinOp (s.setPhase .col)).1 := sendOp (s := s.setPhase .col) h _ _
  have hrow : LogOk (setRowWinOp ((setColWinOp (s.setPhase .col)).1.setPhase .row)).1 :=
    sendOp (s := (setColWinOp (s.setPhase .col)).1.setPhase .row) hcol _ _
  rcases updateOp_cases s with e | e | e <;> rw [e]
  · exact hcol
  · exact hrow
  · exact hrow.writeRamOp

/-- Every request the host can present sends whole frames only (R72, R75). -/
theorem exec_decodeHost {q : HostReq} (h : LogOk s) (hst : exec (decodeHost q) s = .next t) : LogOk t := by
  unfold decodeHost at hst
  split at hst
  · obtain ⟨-, -, rfl⟩ := execEncode_next hst
    split_ifs <;> exact h
  · obtain ⟨-, -, rfl⟩ := execSend_next hst
    split_ifs
    · exact sendOp (s := s.start 1#4) h _ _
    · exact h
  · obtain ⟨-, -, rfl⟩ := execInit_next hst
    split_ifs
    · exact (initFrom (s := s.start 2#4) h 0 _).of_tlog_eq (concludeInit_tlog _)
    · exact h.of_tlog_eq (initNext_tlog ..)
  · obtain ⟨-, -, -, rfl⟩ := updateRequest_next hst
    split_ifs
    · exact (updateOp (s := s.start 3#4) h).of_tlog_eq (concludeUpdate_tlog _)
    · exact h
  · obtain ⟨-, rfl⟩ := execPbRead_next hst
    exact h
  · rcases execPbWrite_next hst with ⟨-, rfl⟩ | ⟨-, -, -, rfl⟩ <;> exact h.of_tlog_eq (pbWriteOp_tlog ..)
  · obtain ⟨-, rfl⟩ := execChkGray_next hst
    exact h
  · obtain ⟨-, rfl⟩ := execShutdown_next hst
    exact h
  · cases hst

theorem hostStep (h : LogOk s) (hst : hostStep s = .next t) : LogOk t := by
  unfold Machine.hostStep at hst
  split at hst
  · exact Host.Outcome.next.inj hst ▸ h
  · next q rest _ => exact exec_decodeHost (s := s.takeRequest rest) h hst

/-- The frame an event hands over is fully packed (R100, R125). -/
theorem event (h : LogOk s) (hinv : Inv s) (hi : s.issue = []) : LogOk (event s) := by
  cases hw : s.wf with
  | none => rw [event_of_noFrame hw]; exact h.of_tlog_eq (startNext_tlog s)
  | some F =>
    by_cases ho : s.op = 0#4
    · rw [event_of_encoded hw ho]; exact h
    · have hF : isFrame F = true := hinv.eq_encodeFrame_of_packed hw hi ▸ isFrame_encodeFrame ..
      rw [event_of_packed hw ho]
      exact (h.afterTransport hF).of_tlog_eq (afterSend_tlog ..)

theorem blockStep (h : LogOk s) (hinv : Inv s) (hst : blockStep s = .next t) : LogOk t := by
  cases hi : s.issue with
  | nil =>
    have he : Machine.blockStep s = .next (Machine.event s) := by simp [Machine.blockStep, hi]
    exact Host.Outcome.next.inj (he.symm.trans hst) ▸ h.event hinv hi
  | cons i rest =>
    obtain ⟨F, -, hpack⟩ := hinv.blockStep_packs hi
    exact Host.Outcome.next.inj (hpack.symm.trans hst) ▸ h

theorem step (h : LogOk s) (hinv : Inv s) (hst : step s = .next t) : LogOk t := by
  unfold Machine.step at hst
  split at hst
  · split at hst
    · exact hostStep (s := s.takeTurn) h hst
    · exact blockStep (s := s.takeTurn) h hinv.takeTurn hst
    · exact h.blockStep hinv hst
  · exact h.hostStep hst

end LogOk

end Sys2Proof.Machine
end

section
open Sys2Proof Sys2Proof.Machine

/-- Settles O47: a step logs encodings only, whether the host's operation sends them at once or an event hands over the
frame that the invariant says is packed. -/
theorem stepLogsOnlyWellFormedFrames : Obligations.StepLogsOnlyWellFormedFrames :=
  fun _ _ hinv hlog hst => hlog.step hinv hst

end

section
/-! SUPPORT. SEND, INIT and SHUTDOWN as one transition (41_send_and_init.md): what an admitted operation leaves, and
INIT's loop against the list of sends that its statements speak of. -/

namespace Sys2Proof.Machine

/-! ### SEND -/

/-- An admitted SEND decides by the payload's length (R101, R85). -/
theorem execSend_of_admits {c : Byte} {p : List Byte} {s : State} (h : Admits s) :
    execSend c p s =
      if p.length ≤ s.cfg.lMax then
        .next (if s.sched.isEmpty then (sendOp c p (s.start 1#4)).1.finish (sendOp c p (s.start 1#4)).2
          else (s.start 1#4).latchSend c p)
      else .refused .payloadTooLong := by
  rw [execSend, admission_eq_none.2 h]

/-- A send that an idle block starts and returns from, its WireFrame not obtained (R101, D14). -/
theorem finish_sendOp_of_allocFails {c : Byte} {p : List Byte} {s : State} (op : Selector) (hb : s.busy = false)
    (ha : s.allocAnswer (frameLength p.length) = false) :
    (sendOp c p (s.start op)).1.finish (sendOp c p (s.start op)).2 = { unsent s c p with op := op } := by
  rw [sendOp_start, sendOp_of_allocFails ha]
  ext1 <;> simp [unsent, hb]

/-- The same with the WireFrame obtained: one call of the transport, its answer returned (R101). -/
theorem finish_sendOp_of_allocOk {c : Byte} {p : List Byte} {s : State} (op : Selector) (hb : s.busy = false)
    (ha : s.allocAnswer (frameLength p.length) = true) :
    (sendOp c p (s.start op)).1.finish (sendOp c p (s.start op)).2 = { sent s c p with op := op } := by
  rw [sendOp_start, sendOp_of_allocOk ha]
  ext1 <;> simp [sent, hb]

/-! ### SHUTDOWN and the start of INIT and UPDATE -/

theorem execShutdown_of_admits {s : State} (h : Admits s) : execShutdown s = .next ((s.start 7#4).finish .ok) := by
  rw [execShutdown, admission_eq_none.2 h]

/-- An admitted INIT whose payloads fit runs at once or begins at entry 0 (R107). -/
theorem execInit_of_admits {s : State} (h : Admits s) (hf : s.cfg.initFits = true) :
    execInit s = .next (if s.sched.isEmpty then concludeInit (initFrom 0 s.cfg.initTable (s.start 2#4))
      else initNext 0 (s.start 2#4)) := by
  simp only [execInit, admission_eq_none.2 h]
  exact if_pos hf

/-- An admitted UPDATE in Ready whose payloads fit runs at once or begins (R124, R128). -/
theorem updateRequest_of_admits {s : State} (h : Admits s) (hr : s.seq = .ready) (hf : s.cfg.updateFits = true) :
    updateRequest s = .next (if s.sched.isEmpty then concludeUpdate (updateOp (s.start 3#4))
      else (s.start 3#4).setPhase .col) := by
  simp only [updateRequest, admission_eq_none.2 h]
  exact (if_pos hr).trans (if_pos hf)

/-! ### A list of sends -/

/-- What every send keeps, a list of sends keeps. -/
theorem afterSends_induct {P : State → Prop} (hsend : ∀ c p s, P s → P (sendOp c p s).1) (es : List SendArgs) :
    ∀ s, P s → P (afterSends es s) := by
  induction es with
  | nil => exact fun _ h => h
  | cons e es ih => exact fun s h => ih _ (hsend e.1 e.2 s h)

@[simp] theorem afterSends_cfg (es : List SendArgs) (s : State) : (afterSends es s).cfg = s.cfg :=
  afterSends_induct (P := fun t => t.cfg = s.cfg) (fun _ _ _ h => by simpa using h) es s rfl

@[simp] theorem afterSends_pb (es : List SendArgs) (s : State) : (afterSends es s).pb = s.pb :=
  afterSends_induct (P := fun t => t.pb = s.pb) (fun _ _ _ h => by simpa using h) es s rfl

@[simp] theorem afterSends_uph (es : List SendArgs) (s : State) : (afterSends es s).uph = s.uph :=
  afterSends_induct (P := fun t => t.uph = s.uph) (fun _ _ _ h => by simpa using h) es s rfl

@[simp] theorem afterSends_returned (es : List SendArgs) (s : State) : (afterSends es s).returned = s.returned :=
  afterSends_induct (P := fun t => t.returned = s.returned) (fun _ _ _ h => by simpa using h) es s rfl

/-- Sends that all succeed log their frames in order, each answered OK. -/
theorem afterSends_tlog {es : List SendArgs} : ∀ {s : State}, SendsSucceed es s →
    (afterSends es s).tlog = s.tlog ++ okEntries es := by
  induction es with
  | nil => exact fun _ => (List.append_nil _).symm
  | cons e es ih =>
    intro s ⟨he, hes⟩
    rw [afterSends, ih hes, (sendOp_ok_entry he).1, List.append_assoc]
    rfl

/-! ### INIT's loop as a list of sends -/

/-- The loop sets `SEQ` before it reads it. -/
theorem initFrom_setSeq (i : Nat) (table : List SendArgs) (q : Seq) (s : State) :
    initFrom i table (s.setSeq q) = initFrom i table s := by
  cases table <;> rfl

/-- The loop holds the selector of INIT and `BUSY` throughout. -/
theorem initFrom_start (table : List SendArgs) (op : Selector) : ∀ (i : Nat) (s : State),
    initFrom i table (s.start op) = ((initFrom i table s).1.start op, (initFrom i table s).2) := by
  induction table with
  | nil => exact fun _ _ => rfl
  | cons e rest ih =>
    obtain ⟨c, p⟩ := e
    intro i s
    have hcomm : (s.start op).setSeq (.sending i) = (s.setSeq (.sending i)).start op := rfl
    rw [initFrom_cons, initFrom_cons, hcomm, sendOp_start]
    split_ifs
    · exact ih _ _
    · rfl

/-- Entries whose sends succeed are passed one by one (R107). -/
theorem initFrom_append {done : List SendArgs} (rest : List SendArgs) : ∀ {s : State} (i : Nat),
    SendsSucceed done s → initFrom i (done ++ rest) s = initFrom (i + done.length) rest (afterSends done s) := by
  induction done with
  | nil => exact fun _ _ => rfl
  | cons e done ih =>
    intro s i ⟨he, hdone⟩
    rw [List.cons_append, initFrom_cons, sendOp_setSeq, if_pos he, initFrom_setSeq, ih (i + 1) hdone, List.length_cons,
      Nat.add_right_comm, Nat.add_assoc]
    rfl

/-- A loop of sends that all succeed ends in Ready with OK (R107). -/
theorem initFrom_of_succeed {table : List SendArgs} {s : State} (i : Nat) (h : SendsSucceed table s) :
    initFrom i table s = ((afterSends table s).setSeq .ready, .ok) := by
  have happend := initFrom_append [] i h
  rwa [List.append_nil] at happend

/-- The loop stops at the first send that fails, with `SEQ` at its entry (R109). -/
theorem initFrom_of_failure {done : List SendArgs} {e : SendArgs} {rest : List SendArgs} {s : State} (i : Nat)
    (hdone : SendsSucceed done s) (he : (sendOp e.1 e.2 (afterSends done s)).2 ≠ .ok) :
    initFrom i (done ++ e :: rest) s =
      ((sendOp e.1 e.2 (afterSends done s)).1.setSeq (.sending (i + done.length)),
        (sendOp e.1 e.2 (afterSends done s)).2) := by
  rw [initFrom_append _ i hdone, initFrom_cons, sendOp_setSeq, if_neg he]

/-- An INIT made at once whose first failing send is that of `e` raises its error (R107, R109). -/
theorem execInit_of_failure {s : State} {done rest : List SendArgs} {e : SendArgs} (ha : Admits s) (hs : HostWaits s)
    (hf : s.cfg.initFits = true) (htable : s.cfg.initTable = done ++ e :: rest) (hdone : SendsSucceed done s)
    (he : (sendOp e.1 e.2 (afterSends done s)).2 ≠ .ok) :
    execInit s = .next ((((sendOp e.1 e.2 (afterSends done s)).1.setSeq (.sending (0 + done.length))).start 2#4).raise
      (sendOp e.1 e.2 (afterSends done s)).2) := by
  rw [execInit_of_admits ha hf, if_pos (List.isEmpty_iff.2 hs), initFrom_start, htable, initFrom_of_failure 0 hdone he]
  exact congrArg _ (concludeInit_error (by exact he))

end Sys2Proof.Machine
end

section
open Sys2Proof Sys2Proof.Machine

/-- Settles O17: an admitted SEND whose payload fits is one send, started and returned from. -/
theorem sendMakesOneTransportCall : Obligations.SendMakesOneTransportCall := by
  intro s c p ha hs hp
  have hsend : exec (.send c p) s =
      .next ((sendOp c p (s.start 1#4)).1.finish (sendOp c p (s.start 1#4)).2) := by
    refine (execSend_of_admits ha).trans ?_
    rw [if_pos hp, if_pos (List.isEmpty_iff.2 hs)]
  rw [encodeFrame_length_eq, hsend]
  exact ⟨fun hfail => congrArg _ (finish_sendOp_of_allocFails _ ha.2 hfail),
    fun hok => congrArg _ (finish_sendOp_of_allocOk _ ha.2 hok)⟩

/-- Settles O16: the meaning of TRANSPORT_SEND written out. -/
theorem transportSendLogsTheCall : Obligations.TransportSendLogsTheCall := fun _ _ => rfl

/-- Settles O22: SHUTDOWN starts and returns, and does nothing in between. -/
theorem shutdownChangesNothing : Obligations.ShutdownChangesNothing := by
  intro s ha
  refine (execShutdown_of_admits ha).trans (congrArg _ ?_)
  ext1 <;> simp [ha.2]

/-- Settles O18: the loop passes every entry, and INIT returns OK in Ready. -/
theorem initSendsTheWholeTable : Obligations.InitSendsTheWholeTable := by
  intro s ha hs hf hsucceed
  refine ⟨_, execInit_of_admits ha hf, ?_⟩
  rw [if_pos (List.isEmpty_iff.2 hs), initFrom_start, initFrom_of_succeed 0 hsucceed, concludeInit_ok rfl]
  simp [afterSends_tlog hsucceed]

/-- Settles O19: the loop passes the entries before the failing one, and INIT raises that one's error. -/
theorem initStopsAtTheFirstFailure : Obligations.InitStopsAtTheFirstFailure := by
  intro s done rest e ha hs hf htable hdone
  rw [SendArgs.frame, encodeFrame_length_eq]
  refine ⟨fun err hok herr => ?_, fun hfail => ?_⟩
  · have he : (sendOp e.1 e.2 (afterSends done s)).2 = .transportError err := by
      rw [sendOp_of_allocOk hok, herr]; rfl
    refine ⟨_, execInit_of_failure ha hs hf htable hdone (by simp [he]), ?_⟩
    simp [he, sendOp_tlog, hok, herr, afterSends_tlog hdone]
  · have he : (sendOp e.1 e.2 (afterSends done s)).2 = .allocationError := by
      rw [sendOp_of_allocFails hfail]
    refine ⟨_, execInit_of_failure ha hs hf htable hdone (by simp [he]), ?_⟩
    simp [he, sendOp_tlog, hfail, afterSends_tlog hdone]

/-- Settles O54: with a schedule each operation's first transition is its start and the latching of its operands. -/
theorem scheduledOperationsBegin : Obligations.ScheduledOperationsBegin := by
  intro s c p ha hs
  have hs : ¬s.sched.isEmpty = true := by simpa using hs
  refine ⟨fun hp => ⟨?_, ?_⟩, fun hf h0 => ?_, fun hr hf => ?_⟩
  · refine (execEncode_of_admits ha).trans ?_
    rw [if_pos hp, if_neg hs]; rfl
  · refine (execSend_of_admits ha).trans ?_
    rw [if_pos hp, if_neg hs]; rfl
  · refine (execInit_of_admits ha hf).trans ?_
    rw [if_neg hs, initNext, if_pos (by exact h0)]; rfl
  · refine (updateRequest_of_admits ha hr hf).trans ?_
    rw [if_neg hs]; rfl

end

section
/-! SUPPORT. `SEQ` (R108): the events of an INIT in progress, and what leaves `SEQ` alone. -/

namespace Sys2Proof.Machine

/-! ### The events of INIT -/

theorem initNext_of_lt {i : Nat} {s : State} (h : i < s.cfg.nInit) : initNext i s = s.setSeq (.sending i) := by
  rw [initNext, if_pos h]

theorem initNext_of_last {i : Nat} {s : State} (h : i = s.cfg.nInit) :
    initNext i s = (s.setSeq .ready).finish .ok := by
  rw [initNext, if_neg (by omega)]

/-- With an entry to send, the next event asks for its WireFrame (R108). -/
theorem event_of_entry {s : State} {i : Nat} {e : SendArgs} (hu : s.uph = .none) (hs : s.seq = .sending i)
    (hw : s.wf = none) (he : s.cfg.initTable[i]? = some e) : event s = acquire (.cmdu e.1) e.1 e.2 s := by
  rw [event_of_noFrame hw]
  rcases startNext_of_sending hu hs with ⟨e', he', hnext⟩ | ⟨hnone, -⟩
  · obtain rfl : e' = e := Option.some.inj (he'.symm.trans he)
    exact hnext
  · exact absurd (hnone.symm.trans he) nofun

/-- Asking for a WireFrame inside INIT: it is opened for the latched operands, or INIT fails (R108, D14). -/
theorem acquire_of_sending {s : State} {i : Nat} (hs : s.seq = .sending i) (hb : s.busy = true) (first : Instr)
    (c : Byte) (p : List Byte) :
    (s.allocAnswer (encodeFrame c p).length = true →
      (acquire first c p s).seq = .sending i ∧ (acquire first c p s).returned = s.returned ∧
      (acquire first c p s).busy = true ∧ (acquire first c p s).wf = some (zeros (encodeFrame c p).length) ∧
      (acquire first c p s).cursor = 0 ∧ (acquire first c p s).cmd = c ∧ (acquire first c p s).payload = p) ∧
    (s.allocAnswer (encodeFrame c p).length = false →
      (acquire first c p s).seq = .failed ∧ (acquire first c p s).returned = s.returned ++ [.allocationError] ∧
      (acquire first c p s).busy = false) := by
  rw [encodeFrame_length_eq]
  refine ⟨fun ha => ?_, fun ha => ?_⟩
  · rw [acquire_of_allocOk ha]
    exact ⟨hs, rfl, hb, rfl, rfl, rfl, rfl⟩
  · rw [acquire_of_allocFails ha]
    simp [hs]

namespace Inv

variable {s : State}

theorem uph_eq_none_of_sending (h : Inv s) {i : Nat} (hs : s.seq = .sending i) : s.uph = .none :=
  h.uph_eq_none_of_op (by simp [(h.sending i hs).2.2])

/-- With its frame packed, INIT hands it over: an answer OK moves on from entry `i` (R108). -/
theorem event_of_init_ok (h : Inv s) {i : Nat} (hs : s.seq = .sending i) {F : List Byte} (hw : s.wf = some F)
    (ha : s.transportAnswer F = .ok) :
    Machine.event s = Machine.initNext (i + 1) (s.afterTransport F).releaseFrame := by
  rw [event_of_packed hw (by simp [(h.sending i hs).2.2]), ha]
  exact afterSend_ok_of_sending (s := (s.afterTransport F).releaseFrame) (h.uph_eq_none_of_sending hs) hs

/-- An error of the transport is raised unchanged (R109, R161). -/
theorem event_of_init_error (h : Inv s) {i : Nat} (hs : s.seq = .sending i) {F : List Byte} (hw : s.wf = some F)
    {e : TErr} (ha : s.transportAnswer F = .error e) :
    Machine.event s = (s.afterTransport F).releaseFrame.raise (.transportError e) := by
  rw [event_of_packed hw (by simp [(h.sending i hs).2.2]), ha]
  exact afterSend_error _ nofun

end Inv

/-! ### What leaves `SEQ` alone: events -/

theorem startNext_seq {s : State} (h : ∀ i, s.seq ≠ .sending i) : (startNext s).seq = s.seq := by
  rcases startNext_cases s with ⟨_, _, _, he⟩ | ⟨i, hs, -⟩ | he | he | he
  · rw [he, acquire_seq _ _ _ h]
  · exact absurd hs (h i)
  · rw [he]; rfl
  · rw [he]; rfl
  · rw [he]; exact raise_seq_of_not_sending (s := s.afterAlloc) _ h

theorem event_seq {s : State} (h : ∀ i, s.seq ≠ .sending i) : (event s).seq = s.seq := by
  cases hw : s.wf with
  | none => rw [event_of_noFrame hw, startNext_seq h]
  | some F =>
    by_cases ho : s.op = 0#4
    · rw [event_of_encoded hw ho]; rfl
    · rw [event_of_packed hw ho]; exact afterSend_seq (s := (s.afterTransport F).releaseFrame) _ h

/-! ### What leaves `SEQ` alone: instructions -/

theorem concludeUpdate_seq {r : State × Result} (h : ∀ i, r.1.seq ≠ .sending i) :
    (concludeUpdate r).seq = r.1.seq := by
  by_cases hr : r.2 = .ok
  · rw [concludeUpdate_ok hr]; rfl
  · rw [concludeUpdate_error hr, raise_seq_of_not_sending _ h]

@[simp] theorem pbWriteOp_seq (off : Nat) (data : List Byte) (s : State) : (pbWriteOp off data s).1.seq = s.seq := by
  rcases Nat.lt_or_ge s.cfg.pbSize off with ho | ho
  · rw [pbWriteOp_of_beyond ho]; rfl
  · rw [pbWriteOp_of_inside ho]; split_ifs <;> rfl

section
variable {s t : State}

theorem onFrame_seq {n : Nat} {f : Writer → Writer} (h : onFrame n f s = .next t) : t.seq = s.seq := by
  obtain ⟨F, -, -, rfl⟩ := onFrame_eq_next.1 h
  rfl

theorem execEncode_seq {c : Byte} {p : List Byte} (h : execEncode c p s = .next t) : t.seq = s.seq := by
  obtain ⟨-, -, rfl⟩ := execEncode_next h
  split_ifs <;> rfl

theorem execSend_seq {c : Byte} {p : List Byte} (h : execSend c p s = .next t) : t.seq = s.seq := by
  obtain ⟨-, -, rfl⟩ := execSend_next h
  split_ifs <;> simp

/-- UPDATE runs in Ready only, so its errors leave `SEQ` there (R128, R164). -/
theorem updateRequest_seq (h : updateRequest s = .next t) : t.seq = s.seq := by
  obtain ⟨-, hr, -, rfl⟩ := updateRequest_next h
  split_ifs
  · rw [concludeUpdate_seq (by simp [hr])]; simp
  · rfl

theorem execPbWrite_seq {off : Nat} {data : List Byte} (h : execPbWrite off data s = .next t) : t.seq = s.seq := by
  rcases execPbWrite_next h with ⟨-, rfl⟩ | ⟨-, -, -, rfl⟩ <;> simp

theorem execHostWrite_seq {off : Nat} {data : List Byte} (h : execHostWrite off data s = .next t) : t.seq = s.seq := by
  obtain ⟨-, ⟨-, rfl⟩ | ⟨-, hr⟩⟩ := execHostWrite_next h
  · simp
  · rw [updateRequest_seq hr]; simp

theorem execDecode_seq {F : List Byte} (h : execDecode F s = .next t) : t.seq = s.seq := by
  unfold execDecode at h
  split at h
  · exact Host.Outcome.next.inj h ▸ rfl
  · cases h

/-- An internal operation refused outside its limits keeps what its effect keeps. -/
theorem seq_of_ite_refused {c : Prop} [Decidable c] {r : Refusal} {x : State}
    (h : (if c then (.next x : Reply) else .refused r) = .next t) (hx : x.seq = s.seq) : t.seq = s.seq := by
  split_ifs at h
  exact Host.Outcome.next.inj h ▸ hx

/-- No instruction but INIT changes `SEQ` (R108). -/
theorem exec_seq {i : Instr} (hi : i ≠ .init) (h : exec i s = .next t) : t.seq = s.seq := by
  cases hu : unitOf s.cfg i with
  | some e => exact onFrame_seq ((exec_of_unitOf hu).symm.trans h)
  | none =>
    cases i with
    | encode c p => exact execEncode_seq h
    | send c p => exact execSend_seq h
    | init => exact absurd rfl hi
    | update => exact updateRequest_seq h
    | pbRead off cnt => obtain ⟨-, rfl⟩ := execPbRead_next h; rfl
    | pbWrite off data => exact execPbWrite_seq h
    | chkGray v => obtain ⟨-, rfl⟩ := execChkGray_next h; rfl
    | shutdown => obtain ⟨-, rfl⟩ := execShutdown_next h; rfl
    | reservedHop x => cases h
    | writeBit b => exact onFrame_seq ((exec_writeBit b s).symm.trans h)
    | writeByte v => exact onFrame_seq ((exec_writeByte v s).symm.trans h)
    | writeUnit d v => exact onFrame_seq ((exec_writeUnit d v s).symm.trans h)
    | reformat => exact Host.Outcome.next.inj h ▸ rfl
    | setColWin => exact seq_of_ite_refused h (sendOp_seq ..)
    | setRowWin => exact seq_of_ite_refused h (sendOp_seq ..)
    | writeRam => exact seq_of_ite_refused h (writeRamOp_seq s)
    | decode F => exact execDecode_seq h
    | hostWrite off data => exact execHostWrite_seq h
    | transportSend F => exact Host.Outcome.next.inj h ▸ rfl
    | _ => simp [unitOf, Instr.command?] at hu

/-! ### What leaves `SEQ` alone: steps -/

/-- A request changes `SEQ` only if it is for INIT and the block is idle: while an operation is in progress INIT is
refused (R172). -/
theorem hostStep_seq (hp : ∀ q rest, s.busy = false → s.port = q :: rest → decodeHost q ≠ .init)
    (h : hostStep s = .next t) : t.seq = s.seq := by
  unfold hostStep at h
  split at h
  · exact Host.Outcome.next.inj h ▸ rfl
  · next q rest hport =>
    refine exec_seq (s := s.takeRequest rest) (fun hq => ?_) h
    rw [hq] at h
    obtain ⟨⟨-, hidle⟩, -, -⟩ := execInit_next h
    exact hp q rest hidle hport hq

/-- The block's own steps change `SEQ` inside an INIT only. -/
theorem Inv.blockStep_seq (hinv : Inv s) (hs : ∀ i, s.seq ≠ .sending i) (h : Machine.blockStep s = .next t) :
    t.seq = s.seq := by
  cases hi : s.issue with
  | nil =>
    have he : Machine.blockStep s = .next (Machine.event s) := by simp [Machine.blockStep, hi]
    exact Host.Outcome.next.inj (he.symm.trans h) ▸ event_seq hs
  | cons i rest =>
    obtain ⟨F, -, hpack⟩ := hinv.blockStep_packs hi
    exact Host.Outcome.next.inj (hpack.symm.trans h) ▸ rfl

theorem Inv.step_seq (hinv : Inv s) (hop : s.busy = true → s.op ≠ 2#4)
    (hp : ∀ q rest, s.busy = false → s.port = q :: rest → decodeHost q ≠ .init) (h : Machine.step s = .next t) :
    t.seq = s.seq := by
  unfold Machine.step at h
  split at h
  · next hb =>
    have hs := hinv.not_sending_of_op (hop hb)
    split at h
    · exact hostStep_seq (s := s.takeTurn) hp h
    · exact hinv.takeTurn.blockStep_seq hs h
    · exact hinv.blockStep_seq hs h
  · exact hostStep_seq hp h

end

end Sys2Proof.Machine
end

section
open Sys2Proof Sys2Proof.Machine

/-- Settles O21: at an entry INIT asks for its WireFrame; with the frame packed the transport's answer decides. -/
theorem initMovesOneEntryPerSend : Obligations.InitMovesOneEntryPerSend := by
  intro s i h hs
  obtain ⟨hb, -, -⟩ := h.sending i hs
  refine ⟨fun c p hw he => ?_, fun F hw _ => ?_⟩
  · rw [event_of_entry (h.uph_eq_none_of_sending hs) hs hw he]
    exact ⟨acquire_tlog .., acquire_of_sending hs hb ..⟩
  · cases ha : s.transportAnswer F with
    | ok =>
      rw [h.event_of_init_ok hs hw ha]
      refine ⟨by simp [ha], fun _ hi => ?_, fun _ hi => ?_, nofun⟩
      · rw [initNext_of_lt (by exact hi)]
        exact ⟨rfl, rfl, hb⟩
      · rw [initNext_of_last (by exact hi)]
        exact ⟨rfl, rfl, rfl⟩
    | error e =>
      rw [h.event_of_init_error hs hw ha]
      simp [ha, hs]

/-- Settles O49: instructions, events and steps in turn. -/
theorem onlyInitChangesSeq : Obligations.OnlyInitChangesSeq :=
  ⟨fun _ _ _ hi h => exec_seq hi h, fun _ h => event_seq h, fun _ _ hinv h hop hp => hinv.step_seq hop hp h⟩

end

section
/-! SUPPORT. The bytes of an UPDATE: the two halves of a PixelBuffer byte (R130), what the PanelImage depends on (R129), and
the lengths of the frames (R131). -/

namespace Sys2Proof.Machine

/-! ### Nibbles -/

/-- A grey byte is its grey level times `0x11` (R47). -/
theorem toNat_greyByte (g : BitVec 4) : (greyByte g).toNat = 0x11 * g.toNat := by revert g; decide

theorem setWidth_highNibble (b : Byte) : (highNibble b).setWidth 8 = b >>> 4 := by revert b; decide

theorem setWidth_lowNibble (b : Byte) : (lowNibble b).setWidth 8 = b &&& 0x0F := by revert b; decide

/-- The byte R130 makes of the high nibble, in the rule's first form. -/
theorem greyByte_highNibble (b : Byte) : greyByte (highNibble b) = ((b >>> 4) <<< 4) ||| (b >>> 4) := by
  rw [greyByte, setWidth_highNibble]

/-- The byte R130 makes of the low nibble, in the rule's first form. -/
theorem greyByte_lowNibble (b : Byte) : greyByte (lowNibble b) = ((b &&& 0x0F) <<< 4) ||| (b &&& 0x0F) := by
  rw [greyByte, setWidth_lowNibble]

/-- Shifting the high nibble down and up again masks it. -/
theorem highNibble_shift_back (b : Byte) : (b >>> 4) <<< 4 = b &&& 0xF0 := by revert b; decide

/-- Masking before a shift, or after it. -/
theorem lowNibble_shift (b : Byte) : (b &&& 0x0F) <<< 4 = (b <<< 4) &&& 0xF0 := by revert b; decide

/-- The high half of the first byte and the low half of the second are the halves of the byte they come from. -/
theorem halves_of_greyBytes (b : Byte) :
    b = (greyByte (highNibble b) &&& 0xF0) ||| (greyByte (lowNibble b) &&& 0x0F) := by revert b; decide

/-! ### The PanelImage and the geometry -/

/-- Every byte the double loop of REFORMAT reads is one of the PixelBuffer's, for any geometry. -/
theorem row_place_lt_pbSize {g : Config} {y xb : Nat} (hy : y < g.height) (hx : xb < g.rowBytes) :
    y * g.rowBytes + xb < g.pbSize :=
  calc y * g.rowBytes + xb < (y + 1) * g.rowBytes := by rw [Nat.succ_mul]; omega
    _ ≤ g.height * (g.width / 2) := Nat.mul_le_mul_right _ hy
    _ ≤ g.height * g.width / 2 := Nat.mul_div_le_mul_div_assoc ..
    _ = g.pbSize := by rw [Config.pbSize, Nat.mul_comm]

/-- The PanelImage depends on the width, the height and the bytes inside the PixelBuffer alone (R129). -/
theorem panelImage_congr {g g' : Config} {pixel pixel' : Nat → Byte} (hw : g.width = g'.width)
    (hh : g.height = g'.height) (hp : ∀ i, i < g.pbSize → pixel i = pixel' i) :
    panelImage g pixel = panelImage g' pixel' := by
  have hrow : g.rowBytes = g'.rowBytes := by rw [Config.rowBytes, Config.rowBytes, hw]
  rw [panelImage, panelImage, ← hrow, ← hh]
  refine List.flatMap_congr fun y hy => List.flatMap_congr fun xb hx => congrArg pixelPair (hp _ ?_)
  exact row_place_lt_pbSize (List.mem_range.1 hy) (List.mem_range.1 hx)

/-! ### Lengths of frames -/

theorem SendArgs.frame_length (e : SendArgs) : e.frame.length = frameLength e.2.length := encodeFrame_length_eq ..

/-- A window payload has two bytes, its frame four (R120, R121). -/
theorem frameLength_two : frameLength 2 = 4 := rfl

end Sys2Proof.Machine
end

section
open Sys2Proof Sys2Proof.Machine

/-- Settles O24: the rule's forms nibble by nibble, and `0x11` times a grey level. -/
theorem nibbleDuplicationLaw : Obligations.NibbleDuplicationLaw := by
  intro b
  have hform : pixelPair b = [((b >>> 4) <<< 4) ||| (b >>> 4), ((b &&& 0x0F) <<< 4) ||| (b &&& 0x0F)] := by
    rw [pixelPair, greyByte_highNibble, greyByte_lowNibble]
  refine ⟨hform, ?_, fun hi lo h => ?_, fun o ho => ?_⟩
  · rw [hform, highNibble_shift_back, lowNibble_shift]; rfl
  · obtain ⟨rfl, rfl⟩ : greyByte (highNibble b) = hi ∧ greyByte (lowNibble b) = lo := by simpa [pixelPair] using h
    exact halves_of_greyBytes b
  · obtain rfl | rfl : o = greyByte (highNibble b) ∨ o = greyByte (lowNibble b) := by simpa [pixelPair] using ho
    · exact ⟨_, toNat_greyByte _⟩
    · exact ⟨_, toNat_greyByte _⟩

/-- Settles O25: the race of R55 with no earlier contents to read from. -/
theorem reformatBuildsThePanelImage : Obligations.ReformatBuildsThePanelImage := by
  intro s hv hq
  obtain ⟨image, hexec, hlength, hpair⟩ := racingReadsSeeOldOrNewBytes s hv
  refine ⟨image, by rw [hexec, ← hq], hlength, fun i hi => ?_⟩
  obtain ⟨m, hm, hbytes⟩ := hpair i hi
  obtain rfl : m = s.pb := by simpa [hq] using hm
  exact hbytes

/-- Settles O27: REFORMAT reads bytes inside the PixelBuffer only, and with no racing write as they are. -/
theorem panelImageDependsOnThePixelBufferOnly : Obligations.PanelImageDependsOnThePixelBufferOnly := by
  intro s t hw hh hs ht hp
  rw [State.reformatted, State.reformatted, pixelRead_quiet hs, pixelRead_quiet ht]
  exact panelImage_congr hw hh hp

/-- Settles O33: the length law at the payloads' lengths 2, 2 and 8192. -/
theorem updateFrameSizes : Obligations.UpdateFrameSizes := by
  intro s hw hh
  have himage : (ramSend s).2.length = 8192 := by
    rw [ramSend, length_panelImage, Config.rowBytes, hw, hh]
  rw [SendArgs.frame_length (ramSend s), himage, ← frameLength_two]
  exact ⟨SendArgs.frame_length _, SendArgs.frame_length _, rfl⟩

end

section
/-! SUPPORT. A send on its own, and the operations of the DisplayUpdater that are one: what each leaves and answers (R101,
R120, R121, R123). -/

namespace Sys2Proof.Machine

/-! ### One send -/

/-- A send on its own, its WireFrame not obtained (R101, D14). -/
theorem deliver_sendOp_of_allocFails {c : Byte} {p : List Byte} {s : State}
    (h : s.allocAnswer (frameLength p.length) = false) :
    (sendOp c p s).1.deliver (sendOp c p s).2 = unsent s c p := by
  rw [sendOp_of_allocFails h]; rfl

/-- A send on its own, its WireFrame obtained (R101). -/
theorem deliver_sendOp_of_allocOk {c : Byte} {p : List Byte} {s : State}
    (h : s.allocAnswer (frameLength p.length) = true) :
    (sendOp c p s).1.deliver (sendOp c p s).2 = sent s c p := by
  rw [sendOp_of_allocOk h]
  ext1 <;> simp [sent]

/-- With its WireFrame a send is in the log, and answers what the transport answered (R33, R101). -/
theorem sendOp_of_frame_obtained {e : SendArgs} {s : State} (h : s.allocAnswer e.frame.length = true) :
    (sendOp e.1 e.2 s).1.tlog = s.tlog ++ [(e.frame, s.transportAnswer e.frame)] ∧
      (sendOp e.1 e.2 s).2 = .ofAnswer (s.transportAnswer e.frame) := by
  rw [SendArgs.frame_length] at h
  rw [sendOp_of_allocOk h]
  exact ⟨rfl, rfl⟩

/-- A send fails with this result and adds these entries to the log. -/
structure SendFails (e : SendArgs) (s : State) (r : Result) (log : List (List Byte × Answer)) : Prop where
  result : (sendOp e.1 e.2 s).2 = r
  ne_ok  : r ≠ .ok
  tlog   : (sendOp e.1 e.2 s).1.tlog = s.tlog ++ log

/-- Without its WireFrame a send adds nothing to the log (D14). -/
theorem sendFails_of_allocFails {e : SendArgs} {s : State} (h : s.allocAnswer e.frame.length = false) :
    SendFails e s .allocationError [] := by
  rw [SendArgs.frame_length] at h
  exact ⟨by rw [sendOp_of_allocFails h], nofun, by simp [sendOp_of_allocFails h]⟩

/-- A frame the transport refuses is in the log with its error (R33, R101). -/
theorem sendFails_of_transportError {e : SendArgs} {s : State} {err : TErr} (h : s.allocAnswer e.frame.length = true)
    (ht : s.transportAnswer e.frame = .error err) :
    SendFails e s (.transportError err) [(e.frame, .error err)] := by
  obtain ⟨hlog, hres⟩ := sendOp_of_frame_obtained h
  rw [ht] at hlog hres
  exact ⟨hres, nofun, hlog⟩

/-! ### The operations that are one send -/

theorem exec_setColWin {s : State} (h : 2 ≤ s.cfg.lMax) :
    exec .setColWin s = .next ((setColWinOp s).1.deliver (setColWinOp s).2) := if_pos h

theorem exec_setRowWin {s : State} (h : 2 ≤ s.cfg.lMax) :
    exec .setRowWin s = .next ((setRowWinOp s).1.deliver (setRowWinOp s).2) := if_pos h

theorem exec_writeRam {s : State} (h : s.cfg.piSize ≤ s.cfg.lMax) :
    exec .writeRam s = .next ((writeRamOp s).1.deliver (writeRamOp s).2) := if_pos h

/-- With a PanelImage and no write racing, WRITERAM is the RAM-write send, the phase and the release of `PI` pulled out of
it (R123). -/
theorem writeRamOp_eq_ramSend {s : State} (h : s.allocAnswer s.cfg.piSize = true) (hq : s.pbOld = []) :
    writeRamOp s =
      (((sendOp (ramSend s).1 (ramSend s).2 s.afterAlloc).1.setPhase .write).releaseImage,
        (sendOp (ramSend s).1 (ramSend s).2 s.afterAlloc).2) := by
  have hsend := sendOp_setPhase (ramSend s).1 (ramSend s).2 .write (s.afterAlloc.putImage (ramSend s).2)
  rw [sendOp_putImage] at hsend
  exact (writeRamOp_of_allocOk h hq).trans (congrArg (fun r => (r.1.releaseImage, r.2)) hsend)

end Sys2Proof.Machine
end

section
open Sys2Proof Sys2Proof.Machine

/-- Settles O23: each is one send of two payload bytes, its WireFrame obtained or not. -/
theorem windowCommandsSendTheirBounds : Obligations.WindowCommandsSendTheirBounds := by
  intro s hl
  rw [exec_setColWin hl, exec_setRowWin hl, ← frameLength_two]
  exact ⟨encodeFrame_length_eq ..,
    fun h => ⟨congrArg _ (deliver_sendOp_of_allocFails h), congrArg _ (deliver_sendOp_of_allocFails h)⟩,
    fun h => ⟨congrArg _ (deliver_sendOp_of_allocOk h), congrArg _ (deliver_sendOp_of_allocOk h)⟩⟩

/-- Settles O28: without a PanelImage nothing is sent; with one WRITERAM is the RAM-write send. -/
theorem writeRamSendsThePanelImage : Obligations.WriteRamSendsThePanelImage := by
  intro s hl hq
  refine ⟨_, exec_writeRam hl, ?_⟩
  cases ha : s.allocAnswer s.cfg.piSize
  · rw [writeRamOp_of_allocFails ha]
    simp
  · rw [writeRamOp_eq_ramSend ha hq]
    refine ⟨rfl, sendOp_wf (s := s.afterAlloc) _ _, sendOp_pb .., sendOp_seq .., sendOp_busy .., sendOp_cfg ..,
      sendOp_off .., sendOp_cnt .., sendOp_val .., sendOp_op .., sendOp_port .., nofun,
      fun _ => ⟨rfl, sendOp_cmd .., sendOp_payload .., fun hfail => ?_, fun hok => ?_⟩⟩
    · obtain ⟨hres, -, hlog⟩ := sendFails_of_allocFails hfail
      simp [hres, hlog]
    · obtain ⟨hlog, hres⟩ := sendOp_of_frame_obtained hok
      simp [hres, hlog]

end

section
/-! SUPPORT. UPDATE as one transition (R124, R126): its sends one after the other, and what it leaves whatever they
answer. -/

namespace Sys2Proof.Machine

/-! ### A list of sends -/

/-- The port's latches, the requests that wait and the schedule are as before: no send writes them. -/
structure HostSideKept (s t : State) : Prop where
  off   : t.off = s.off
  cnt   : t.cnt = s.cnt
  val   : t.val = s.val
  port  : t.port = s.port
  sched : t.sched = s.sched

namespace HostSideKept

variable {s t : State}

theorem sendOp (h : HostSideKept s t) (c : Byte) (p : List Byte) : HostSideKept s (sendOp c p t).1 :=
  ⟨(sendOp_off ..).trans h.off, (sendOp_cnt ..).trans h.cnt, (sendOp_val ..).trans h.val,
    (sendOp_port ..).trans h.port, (sendOp_sched ..).trans h.sched⟩

theorem afterSends (es : List SendArgs) (s : State) : HostSideKept s (afterSends es s) :=
  afterSends_induct (P := HostSideKept s) (fun c p _ h => h.sendOp c p) es s ⟨rfl, rfl, rfl, rfl, rfl⟩

theorem writeRamOp (h : HostSideKept s t) : HostSideKept s (writeRamOp t).1 := by
  rcases writeRamOp_cases t with e | ⟨image, e⟩ <;> rw [e]
  · exact { h with }
  · exact { sendOp (t := ((t.setPhase .build).afterAlloc.putImage image).setPhase .write) { h with } _ _ with }

theorem updateOp (h : HostSideKept s t) : HostSideKept s (updateOp t).1 := by
  have hcol : HostSideKept s (setColWinOp (t.setPhase .col)).1 := sendOp (t := t.setPhase .col) { h with } _ _
  have hrow : HostSideKept s (setRowWinOp ((setColWinOp (t.setPhase .col)).1.setPhase .row)).1 :=
    sendOp (t := (setColWinOp (t.setPhase .col)).1.setPhase .row) { hcol with } _ _
  rcases updateOp_cases t with e | e | e <;> rw [e]
  · exact hcol
  · exact hrow
  · exact hrow.writeRamOp

theorem concludeUpdate {r : State × Result} (h : HostSideKept s r.1) : HostSideKept s (concludeUpdate r) := by
  by_cases hr : r.2 = .ok
  · rw [concludeUpdate_ok hr]; exact { h with }
  · rw [concludeUpdate_error hr]; exact { h with }

end HostSideKept

@[simp] theorem afterSends_seq (es : List SendArgs) (s : State) : (afterSends es s).seq = s.seq :=
  afterSends_induct (P := fun t => t.seq = s.seq) (fun _ _ _ h => by simpa using h) es s rfl

@[simp] theorem afterSends_pbOld (es : List SendArgs) (s : State) : (afterSends es s).pbOld = s.pbOld :=
  afterSends_induct (P := fun t => t.pbOld = s.pbOld) (fun _ _ _ h => by simpa using h) es s rfl

/-- A send that succeeds, by the state it leaves. -/
theorem sendOp_of_succeeds {e : SendArgs} {s : State} (h : (sendOp e.1 e.2 s).2 = .ok) :
    sendOp e.1 e.2 s = (afterSends [e] s, .ok) := Prod.ext rfl h

/-- Each send makes one allocation draw, each that succeeds uses one answer (R31, R32). -/
theorem afterSends_draws {es : List SendArgs} : ∀ {s : State}, SendsSucceed es s →
    (afterSends es s).answers = s.answers.drop es.length ∧ (afterSends es s).allocs = s.allocs.drop es.length ∧
      (afterSends es s).draws = s.draws + es.length := by
  induction es with
  | nil => exact fun _ => ⟨rfl, rfl, rfl⟩
  | cons e es ih =>
    intro s ⟨he, hes⟩
    obtain ⟨hanswers, hallocs, hdraws⟩ := ih hes
    obtain ⟨-, hanswer, -⟩ := sendOp_ok_entry he
    refine ⟨?_, ?_, ?_⟩
    · rw [afterSends, hanswers, hanswer, ← List.drop_one, List.drop_drop, List.length_cons, Nat.add_comm]
    · rw [afterSends, hallocs, sendOp_allocs, ← List.drop_one, List.drop_drop, List.length_cons, Nat.add_comm]
    · rw [afterSends, hdraws, sendOp_draws, List.length_cons, Nat.add_assoc, Nat.add_comm 1]

/-! ### UPDATE's sends one after the other -/

variable {s : State}

/-- The RAM-write send is the same in every state with these constants and these bytes. -/
theorem ramSend_congr {t : State} (hc : t.cfg = s.cfg) (hp : t.pb = s.pb) : ramSend t = ramSend s := by
  rw [ramSend, ramSend, hc, hp]

/-- The column send fails: it was UPDATE's only one (R126). -/
theorem updateOp_of_column_fails (o : Selector) {r : Result} {log : List (List Byte × Answer)}
    (h : SendFails (columnSend s.cfg) s r log) :
    updateOp (s.start o) = (((sendOp (columnSend s.cfg).1 (columnSend s.cfg).2 s).1.start o).setPhase .col, r) := by
  have hcol : sendOp (columnSend s.cfg).1 (columnSend s.cfg).2 s = (_, r) := Prod.ext rfl h.result
  rw [updateOp_start, hcol]
  cases r with
  | ok => exact absurd rfl h.ne_ok
  | _ => rfl

/-- The column window is sent and the row send fails: there is no third (R126). -/
theorem updateOp_of_row_fails (o : Selector) {r : Result} {log : List (List Byte × Answer)}
    (hc : SendsSucceed [columnSend s.cfg] s) (h : SendFails (rowSend s.cfg) (afterSends [columnSend s.cfg] s) r log) :
    updateOp (s.start o) =
      (((sendOp (rowSend s.cfg).1 (rowSend s.cfg).2 (afterSends [columnSend s.cfg] s)).1.start o).setPhase .row, r) := by
  have hrow : sendOp (rowSend s.cfg).1 (rowSend s.cfg).2 (afterSends [columnSend s.cfg] s) = (_, r) :=
    Prod.ext rfl h.result
  rw [updateOp_start, sendOp_of_succeeds hc.1]
  dsimp only
  rw [hrow]
  cases r with
  | ok => exact absurd rfl h.ne_ok
  | _ => rfl

/-- With both windows sent, UPDATE goes on with WRITERAM (R124). -/
theorem updateOp_of_windows_sent (o : Selector) (h : SendsSucceed [columnSend s.cfg, rowSend s.cfg] s) :
    updateOp (s.start o) =
      writeRamOp (((afterSends [columnSend s.cfg, rowSend s.cfg] s).start o).setPhase .row) := by
  obtain ⟨hc, hr, -⟩ := h
  have hrow : sendOp (rowSend s.cfg).1 (rowSend s.cfg).2 (afterSends [columnSend s.cfg] s) = _ := sendOp_of_succeeds hr
  rw [updateOp_start, sendOp_of_succeeds hc]
  dsimp only
  rw [hrow]
  rfl

/-- Both windows are sent and the PanelImage is not obtained (R126). -/
theorem updateOp_of_image_refused (o : Selector) (h : SendsSucceed [columnSend s.cfg, rowSend s.cfg] s)
    (ha : (afterSends [columnSend s.cfg, rowSend s.cfg] s).allocAnswer s.cfg.piSize = false) :
    updateOp (s.start o) =
      (((afterSends [columnSend s.cfg, rowSend s.cfg] s).start o).afterAlloc.releaseImage.setPhase .none,
        .allocationError) := by
  rw [updateOp_of_windows_sent o h, writeRamOp_of_allocFails (by simpa using ha)]
  rfl

/-- With the PanelImage obtained, the RAM-write send decides (R123, R124). -/
theorem updateOp_of_image_obtained (o : Selector) (hq : s.pbOld = [])
    (h : SendsSucceed [columnSend s.cfg, rowSend s.cfg] s)
    (ha : (afterSends [columnSend s.cfg, rowSend s.cfg] s).allocAnswer s.cfg.piSize = true) :
    let r := sendOp (ramSend s).1 (ramSend s).2 (afterSends [columnSend s.cfg, rowSend s.cfg] s).afterAlloc
    updateOp (s.start o) = (((r.1.start o).setPhase .write).releaseImage, r.2) := by
  let sentBoth := afterSends [columnSend s.cfg, rowSend s.cfg] s
  have hram : ramSend ((sentBoth.start o).setPhase .row) = ramSend s :=
    ramSend_congr (afterSends_cfg ..) (afterSends_pb ..)
  have hcomm : ((sentBoth.start o).setPhase .row).afterAlloc = (sentBoth.afterAlloc.start o).setPhase .row := rfl
  rw [updateOp_of_windows_sent o h, writeRamOp_eq_ramSend (by simpa using ha) (by simpa using hq), hram, hcomm,
    sendOp_setPhase, sendOp_start]
  rfl

/-! ### What UPDATE leaves, whatever its sends answer -/

/-- The results a send can have (R101). -/
def Result.OfSend (r : Result) : Prop := r = .ok ∨ r = .allocationError ∨ ∃ e, r = .transportError e

theorem ofSend_ofAnswer (a : Answer) : (Result.ofAnswer a).OfSend := by
  cases a with
  | ok => exact .inl rfl
  | error e => exact .inr (.inr ⟨e, rfl⟩)

/-- From `s`, an operation ends with a send's result and at most `n` log entries more. -/
def EndsAsSends (n : Nat) (s : State) (r : State × Result) : Prop :=
  r.2.OfSend ∧ r.1.tlog.length ≤ s.tlog.length + n

theorem endsAsSends_sendOp (c : Byte) (p : List Byte) (s : State) : EndsAsSends 1 s (sendOp c p s) := by
  cases h : s.allocAnswer (frameLength p.length)
  · rw [sendOp_of_allocFails h]; exact ⟨.inr (.inl rfl), Nat.le_succ _⟩
  · rw [sendOp_of_allocOk h]; exact ⟨ofSend_ofAnswer _, by simp⟩

theorem endsAsSends_writeRamOp (s : State) : EndsAsSends 1 s (writeRamOp s) := by
  rcases writeRamOp_cases s with h | ⟨image, h⟩ <;> rw [h]
  · exact ⟨.inr (.inl rfl), Nat.le_succ _⟩
  · exact endsAsSends_sendOp _ image (((s.setPhase .build).afterAlloc.putImage image).setPhase .write)

/-- UPDATE ends with the result of its last send or WRITERAM, and has made three sends at most (R124). -/
theorem endsAsSends_updateOp (s : State) : EndsAsSends 3 s (updateOp s) := by
  let inRow := (setColWinOp (s.setPhase .col)).1.setPhase .row
  obtain ⟨hcol, hcolLog⟩ : EndsAsSends 1 s (setColWinOp (s.setPhase .col)) := endsAsSends_sendOp _ _ (s.setPhase .col)
  obtain ⟨hrow, hrowLog⟩ : EndsAsSends 1 (setColWinOp (s.setPhase .col)).1 (setRowWinOp inRow) :=
    endsAsSends_sendOp _ _ inRow
  obtain ⟨hram, hramLog⟩ := endsAsSends_writeRamOp (setRowWinOp inRow).1
  rw [updateOp_eq]
  split_ifs
  · exact ⟨hram, hramLog.trans (by omega)⟩
  · exact ⟨hrow, hrowLog.trans (by omega)⟩
  · exact ⟨hcol, hcolLog.trans (by omega)⟩

@[simp] theorem updateOp_returned (s : State) : (updateOp s).1.returned = s.returned := by
  have hram : ∀ t, (writeRamOp t).1.returned = t.returned := fun t => by
    rcases writeRamOp_cases t with h | ⟨_, h⟩ <;> simp [h]
  rcases updateOp_cases s with h | h | h <;> simp [h, hram, setColWinOp, setRowWinOp]

@[simp] theorem concludeUpdate_returned (r : State × Result) :
    (concludeUpdate r).returned = r.1.returned ++ [r.2] := by
  by_cases hr : r.2 = .ok
  · rw [concludeUpdate_ok hr, hr]; rfl
  · rw [concludeUpdate_error hr]; rfl

/-- What an UPDATE that runs in one transition is given: it is admitted from a quiet block in Ready, the host waits, and its
payloads fit. -/
structure RunsUpdate (s : State) : Prop where
  admits : Admits s
  waits  : HostWaits s
  quiet  : Quiet s
  ready  : s.seq = .ready
  fits   : s.cfg.updateFits = true

namespace RunsUpdate

theorem exec_update (h : RunsUpdate s) : exec .update s = .next (concludeUpdate (updateOp (s.start 3#4))) :=
  (updateRequest_of_admits h.admits h.ready h.fits).trans (by rw [if_pos (List.isEmpty_iff.2 h.waits)])

/-- UPDATE ends with the result of its sends and their log entries (R126, R133). -/
theorem ends (h : RunsUpdate s) {r : Result} {log : List (List Byte × Answer)}
    (hres : (updateOp (s.start 3#4)).2 = r) (hlog : (updateOp (s.start 3#4)).1.tlog = s.tlog ++ log) :
    UpdateEnds s r log := by
  have hn : NoBuffers (s.start 3#4) := { h.quiet.noBuffers with }
  obtain ⟨hoff, hcnt, hval, hport, -⟩ : HostSideKept s (concludeUpdate (updateOp (s.start 3#4))) :=
    .concludeUpdate (.updateOp ⟨rfl, rfl, rfl, rfl, rfl⟩)
  have hseq : (concludeUpdate (updateOp (s.start 3#4))).seq = s.seq := by
    rw [concludeUpdate_seq (by simpa using h.quiet.seq), updateOp_seq]; rfl
  refine ⟨_, h.exec_update, ?_, ?_, ?_, ?_, hseq, hoff, hcnt, hval, hport, quiet_concludeUpdate hn h.quiet.seq⟩
  · rw [concludeUpdate_returned, updateOp_returned, hres]; rfl
  · rw [concludeUpdate_tlog, hlog]
  · rw [concludeUpdate_cfg, updateOp_cfg]; rfl
  · rw [concludeUpdate_pb, updateOp_pb]; rfl

/-! ### The error exits (R126) -/

variable {r : Result} {log : List (List Byte × Answer)}

theorem ends_of_column_fails (h : RunsUpdate s) (hf : SendFails (columnSend s.cfg) s r log) : UpdateEnds s r log := by
  have hop := updateOp_of_column_fails 3#4 hf
  exact h.ends (by rw [hop]) (by rw [hop]; exact hf.tlog)

theorem ends_of_row_fails (h : RunsUpdate s) (hc : SendsSucceed [columnSend s.cfg] s)
    (hf : SendFails (rowSend s.cfg) (afterSends [columnSend s.cfg] s) r log) :
    UpdateEnds s r (okEntries [columnSend s.cfg] ++ log) := by
  have hop := updateOp_of_row_fails 3#4 hc hf
  refine h.ends (by rw [hop]) ?_
  rw [hop, ← List.append_assoc, ← afterSends_tlog hc]
  exact hf.tlog

theorem ends_of_image_refused (h : RunsUpdate s) (hw : SendsSucceed [columnSend s.cfg, rowSend s.cfg] s)
    (ha : (afterSends [columnSend s.cfg, rowSend s.cfg] s).allocAnswer s.cfg.piSize = false) :
    UpdateEnds s .allocationError (okEntries [columnSend s.cfg, rowSend s.cfg]) := by
  have hop := updateOp_of_image_refused 3#4 hw ha
  exact h.ends (by rw [hop]) (by rw [hop]; exact afterSends_tlog hw)

theorem ends_of_ram_fails (h : RunsUpdate s) (hw : SendsSucceed [columnSend s.cfg, rowSend s.cfg] s)
    (ha : (afterSends [columnSend s.cfg, rowSend s.cfg] s).allocAnswer s.cfg.piSize = true)
    (hf : SendFails (ramSend s) (afterSends [columnSend s.cfg, rowSend s.cfg] s).afterAlloc r log) :
    UpdateEnds s r (okEntries [columnSend s.cfg, rowSend s.cfg] ++ log) := by
  have hop := updateOp_of_image_obtained 3#4 h.quiet.pbOld hw ha
  refine h.ends (by rw [hop]; exact hf.result) ?_
  rw [hop, ← List.append_assoc, ← afterSends_tlog hw]
  exact hf.tlog

end RunsUpdate

/-! ### Outside Ready -/

theorem updateRequest_of_notReady (ha : Admits s) (hr : s.seq ≠ .ready) : updateRequest s = .refused .notReady := by
  simp only [updateRequest, admission_eq_none.2 ha]
  exact if_neg hr

/-- An admitted HOSTWRITE inside the PixelBuffer is its PB_WRITE, finished, and then an update request (R145). -/
theorem execHostWrite_of_inside {off : Nat} {data : List Byte} (ha : Admits s) (ho : off ≤ s.cfg.pbSize) :
    execHostWrite off data s =
      updateRequest ((pbWriteOp off data (s.start 5#4)).1.finish (pbWriteOp off data (s.start 5#4)).2) := by
  simp only [execHostWrite, admission_eq_none.2 ha, pbWriteOp_of_inside (s := s.start 5#4) ho]

end Sys2Proof.Machine
end

section
open Sys2Proof Sys2Proof.Machine

/-- Settles O29: the three sends in a row, then UPDATE returns OK. -/
theorem updateSendsThreeFrames : Obligations.UpdateSendsThreeFrames := by
  intro s ha hs hq hr hf hw himage hram
  have hrun : RunsUpdate s := ⟨ha, hs, hq, hr, hf⟩
  obtain ⟨hlog, hanswers, hwf, hissue, hcursor⟩ := sendOp_ok_entry hram.1
  obtain ⟨hanswers', hallocs', hdraws'⟩ := afterSends_draws hw
  obtain ⟨hoff, hcnt, hval, hport, hsched⟩ := HostSideKept.afterSends [columnSend s.cfg, rowSend s.cfg] s
  rw [hrun.exec_update, updateOp_of_image_obtained 3#4 hq.pbOld hw himage, concludeUpdate_ok (by exact hram.1)]
  refine congrArg _ ?_
  ext1 <;> simp [hlog, hanswers, hwf, hissue, hcursor, hanswers', hallocs', hdraws', hoff, hcnt, hval, hport, hsched,
    afterSends_tlog hw, okEntries, hq.busy, hq.wf, hq.issue, hq.pi, hq.pbOld, hq.uph]
  case cmd => rfl
  case payload => rfl
  case cursor => rfl

/-- Settles O30: each failing send, with its frame in the log or not, and the PanelImage not obtained. -/
theorem updateErrorExits : Obligations.UpdateErrorExits := by
  intro s ha hs hq hr hf
  have h : RunsUpdate s := ⟨ha, hs, hq, hr, hf⟩
  exact ⟨fun hfail => h.ends_of_column_fails (sendFails_of_allocFails hfail),
    fun _ hok herr => h.ends_of_column_fails (sendFails_of_transportError hok herr),
    fun hc hfail => h.ends_of_row_fails hc (sendFails_of_allocFails hfail),
    fun _ hc hok herr => h.ends_of_row_fails hc (sendFails_of_transportError hok herr),
    h.ends_of_image_refused,
    fun hw himage hfail => h.ends_of_ram_fails hw himage (sendFails_of_allocFails hfail),
    fun _ hw himage hok herr => h.ends_of_ram_fails hw himage (sendFails_of_transportError hok herr)⟩

/-- Settles O31: UPDATE ends with what its sends answered and logged, and there are three at most. -/
theorem updateChangesNoArchitecturalState : Obligations.UpdateChangesNoArchitecturalState := by
  intro s ha hs hq hr hf
  obtain ⟨-, ⟨log, hlog⟩, -⟩ := (Extends.refl (s.start 3#4)).updateOp
  obtain ⟨hres, hlength⟩ := endsAsSends_updateOp (s.start 3#4)
  obtain ⟨t, hexec, hret, htlog, hcfg, hpb, hseq, hoff, hcnt, hval, hport, hquiet⟩ :=
    RunsUpdate.ends ⟨ha, hs, hq, hr, hf⟩ rfl hlog.symm
  refine ⟨t, _, hexec, hret, hres, hcfg, hpb, hseq.trans hr, hquiet, hoff, hcnt, hval, hport, ?_⟩
  rw [htlog]
  exact hlog ▸ hlength

/-- Settles O52: a request served from an idle block keeps the invariant, which holds nothing idle but a quiet block. -/
theorem noBufferOutlivesItsOperation : Obligations.NoBufferOutlivesItsOperation := by
  rintro _ s t h - ⟨q, rfl⟩ hst hb
  obtain ⟨-, hwf, hissue, hpi, -, huph, -⟩ := (h.exec_decodeHost hst).quiet hb
  exact ⟨hwf, hpi, hissue, huph⟩

/-- Settles O32: an update request asks for Ready, HOSTWRITE's after its PB_WRITE. -/
theorem updateIsRefusedUnlessReady : Obligations.UpdateIsRefusedUnlessReady := by
  intro s off data ha hr
  refine ⟨updateRequest_of_notReady ha hr, fun ho => (execHostWrite_of_inside ha ho).trans ?_⟩
  exact updateRequest_of_notReady ⟨by simpa using ha.1, rfl⟩ (by simpa using hr)

end

section
/-! SUPPORT. The PixelBuffer port (43_pixelbuffer_port.md): what an admitted read, write, range check or host write
leaves, and what a read of the PixelBuffer returns after a write of the port. -/

namespace Sys2Proof.Machine

variable {s : State}

/-! ### PB_READ and CHKGRAY -/

theorem execPbRead_of_admits (off cnt : Nat) (h : Admits s) :
    execPbRead off cnt s = .next (((s.start 4#4).latchPort off cnt).finish (.okBytes (s.readClipped off cnt))) := by
  rw [execPbRead, admission_eq_none.2 h]

theorem execChkGray_of_admits (v : Nat) (h : Admits s) :
    execChkGray v s = .next (((s.start 6#4).latchVal v).finish (greyResult v)) := by
  rw [execChkGray, admission_eq_none.2 h]

/-- At or beyond the end there is no byte to read (R141). -/
theorem readClipped_of_beyond {off : Nat} (cnt : Nat) (h : off ≥ s.cfg.pbSize) : s.readClipped off cnt = [] :=
  if_pos h

/-- A read inside the PixelBuffer is shortened to the bytes that exist (R141, D33). -/
theorem readClipped_of_inside {off : Nat} (cnt : Nat) (h : off < s.cfg.pbSize) :
    s.readClipped off cnt = s.pb.readBytes off (min cnt (s.cfg.pbSize - off)) :=
  if_neg (Nat.not_le.2 h)

/-! ### PB_WRITE and HOSTWRITE -/

theorem execPbWrite_of_admits (off : Nat) (data : List Byte) (h : Admits s) :
    execPbWrite off data s =
      .next ((pbWriteOp off data (s.start 5#4)).1.finish (pbWriteOp off data (s.start 5#4)).2) := by
  rw [execPbWrite, admission_eq_none.2 h]

/-- A rejected write that an idle block starts and returns from writes its latches only (R142, D22). -/
theorem finish_pbWriteOp_of_beyond {off : Nat} {data : List Byte} (hb : s.busy = false) (ho : off > s.cfg.pbSize) :
    (pbWriteOp off data (s.start 5#4)).1.finish (pbWriteOp off data (s.start 5#4)).2 = { s with
      op := 5#4, off := off, cnt := data.length, returned := s.returned ++ [.offsetRejected] } := by
  rw [pbWriteOp_of_beyond (s := s.start 5#4) ho]
  ext1 <;> simp [hb]

/-- Any other write stores what fits, and outside U_Build keeps no earlier contents (R142, R55). -/
theorem finish_pbWriteOp_of_inside {off : Nat} {data : List Byte} (hb : s.busy = false) (ho : off ≤ s.cfg.pbSize) :
    (pbWriteOp off data (s.start 5#4)).1.finish (pbWriteOp off data (s.start 5#4)).2 = { s with
      op := 5#4, off := off, cnt := data.length
      pb := s.pb.writeBytes off (data.take (min data.length (s.cfg.pbSize - off)))
      pbOld := if s.uph = .build then s.pb :: s.pbOld else s.pbOld
      returned := s.returned ++ [.okCount (min data.length (s.cfg.pbSize - off))] } := by
  rw [pbWriteOp_of_inside (s := s.start 5#4) ho, State.start_uph]
  split_ifs <;> ext1 <;> simp [hb, State.writeCount]

/-- A read after a write of the first `n` bytes of some data: the data inside the window, every other byte as before. -/
theorem Memory.read_writeBytes_take {m : Memory} (h : m.wf = true) (data : List Byte) (off : Nat) {n : Nat}
    (hn : n ≤ data.length) (a : Nat) :
    (m.writeBytes off (data.take n)).read a =
      if off ≤ a ∧ a < off + n then data.getD (a - off) 0 else m.read a := by
  rw [Memory.read_writeBytes _ off a h, List.length_take_of_le hn]
  split_ifs with hwindow
  · rw [List.getD, List.getElem?_take_of_lt (by omega), List.getD]
  · rfl

/-- A HOSTWRITE beyond the end is its rejected PB_WRITE (R145). -/
theorem execHostWrite_of_beyond {off : Nat} {data : List Byte} (ha : Admits s) (ho : off > s.cfg.pbSize) :
    execHostWrite off data s =
      .next ((pbWriteOp off data (s.start 5#4)).1.finish (pbWriteOp off data (s.start 5#4)).2) := by
  simp only [execHostWrite, admission_eq_none.2 ha, pbWriteOp_of_beyond (s := s.start 5#4) ho]

/-- What an UPDATE needs it still has after a PB_WRITE between operations (R145). -/
theorem RunsUpdate.finish_pbWriteOp (h : RunsUpdate s) (off : Nat) (data : List Byte) (r : Result) :
    RunsUpdate ((pbWriteOp off data (s.start 5#4)).1.finish r) := by
  rw [pbWriteOp_eq off data (by simp [h.quiet.uph])]
  exact ⟨⟨h.admits.1, rfl⟩, h.waits, { h.quiet with busy := rfl }, h.ready, h.fits⟩

end Sys2Proof.Machine
end

section
/-! SUPPORT. RangeError (R147, R163): each instruction but CHKGRAY, and each event, with the results it adds. -/

namespace Sys2Proof.Machine

/-! ### Results that are no RangeError -/

theorem Result.OfSend.ne_rangeError {r : Result} (h : r.OfSend) : r ≠ .rangeError := by
  rcases h with rfl | rfl | ⟨e, rfl⟩ <;> nofun

/-- INIT's loop ends with OK or with the result of a send (R107). -/
theorem ofSend_initFrom (table : List (Byte × List Byte)) : ∀ i s, (initFrom i table s).2.OfSend := by
  induction table with
  | nil => exact fun _ _ => .inl rfl
  | cons e rest ih =>
    obtain ⟨c, p⟩ := e
    intro i s
    rw [initFrom_cons]
    split_ifs
    · exact ih _ _
    · exact (endsAsSends_sendOp ..).1

/-- A PB_WRITE answers OffsetRejected or a count (R142). -/
theorem pbWriteOp_ne_rangeError (off : Nat) (data : List Byte) (s : State) :
    (pbWriteOp off data s).2 ≠ .rangeError := by
  rcases Nat.lt_or_ge s.cfg.pbSize off with ho | ho
  · rw [pbWriteOp_of_beyond ho]; nofun
  · rw [pbWriteOp_of_inside ho]; nofun

/-! ### The results that are returned -/

@[simp] theorem initFrom_returned (i : Nat) (table : List (Byte × List Byte)) (s : State) :
    (initFrom i table s).1.returned = s.returned :=
  initFrom_induct (P := fun t => t.returned = s.returned) (fun _ _ h => h) (fun _ _ _ h => by simpa using h) table i s
    rfl

@[simp] theorem concludeInit_returned (r : State × Result) : (concludeInit r).returned = r.1.returned ++ [r.2] := by
  by_cases hr : r.2 = .ok
  · rw [concludeInit_ok hr, hr]; rfl
  · rw [concludeInit_error hr]; rfl

@[simp] theorem writeRamOp_returned (s : State) : (writeRamOp s).1.returned = s.returned := by
  rcases writeRamOp_cases s with h | ⟨_, h⟩ <;> simp [h]

@[simp] theorem pbWriteOp_returned (off : Nat) (data : List Byte) (s : State) :
    (pbWriteOp off data s).1.returned = s.returned := by
  rcases Nat.lt_or_ge s.cfg.pbSize off with ho | ho
  · rw [pbWriteOp_of_beyond ho]; rfl
  · rw [pbWriteOp_of_inside ho]; split_ifs <;> rfl

/-- From `s` to `t` results are added to the record, and no RangeError is among them. -/
def AddsNoRangeError (s t : State) : Prop := ∃ added, t.returned = s.returned ++ added ∧ .rangeError ∉ added

namespace AddsNoRangeError

variable {s t u : State}

theorem silent (h : t.returned = s.returned) : AddsNoRangeError s t := ⟨[], by simp [h], nofun⟩

theorem one {r : Result} (hr : r ≠ .rangeError) (h : t.returned = s.returned ++ [r]) : AddsNoRangeError s t :=
  ⟨[r], h, by simpa using hr.symm⟩

theorem trans (h : AddsNoRangeError s t) (k : AddsNoRangeError t u) : AddsNoRangeError s u := by
  obtain ⟨xs, hxs, hx⟩ := h
  obtain ⟨ys, hys, hy⟩ := k
  exact ⟨xs ++ ys, by rw [hys, hxs, List.append_assoc], by simp [hx, hy]⟩

/-! ### Events -/

/-- INIT goes on to its next entry, or returns OK (R107). -/
theorem initNext (i : Nat) (s : State) : AddsNoRangeError s (initNext i s) := by
  unfold Machine.initNext
  split_ifs
  · exact silent rfl
  · exact one (r := .ok) nofun rfl

/-- What follows a send returns its error, OK, or nothing yet (R124, R126). -/
theorem afterSend {r : Result} (hr : r.OfSend) (s : State) : AddsNoRangeError s (afterSend r s) := by
  by_cases hok : r = .ok
  · subst hok
    cases hu : s.uph with
    | col => rw [afterSend_ok_of_window (.inl hu)]; exact silent rfl
    | row => rw [afterSend_ok_of_window (.inr hu)]; exact silent rfl
    | build => rw [afterSend_ok_of_build hu]; exact silent rfl
    | write => rw [afterSend_ok_of_write hu]; exact one (r := .ok) nofun rfl
    | none =>
      by_cases hs : ∃ i, s.seq = .sending i
      · obtain ⟨i, hs⟩ := hs
        rw [afterSend_ok_of_sending hu hs]; exact initNext _ s
      · rw [afterSend_ok_of_sole hu (not_exists.1 hs)]; exact one (r := .ok) nofun rfl
  · rw [afterSend_error s hok]; exact one hr.ne_rangeError rfl

theorem acquire (first : Instr) (c : Byte) (p : List Byte) (s : State) : AddsNoRangeError s (acquire first c p s) := by
  cases ha : s.allocAnswer (frameLength p.length)
  · rw [acquire_of_allocFails ha]; exact one (r := .allocationError) nofun rfl
  · rw [acquire_of_allocOk ha]; exact silent rfl

theorem startNext (s : State) : AddsNoRangeError s (startNext s) := by
  rcases startNext_cases s with ⟨_, _, _, h⟩ | ⟨_, -, h⟩ | h | h | h <;> rw [h]
  · exact acquire ..
  · exact initNext ..
  · exact silent rfl
  · exact silent rfl
  · exact one (r := .allocationError) nofun rfl

theorem event (s : State) : AddsNoRangeError s (event s) := by
  cases hw : s.wf with
  | none => rw [event_of_noFrame hw]; exact startNext s
  | some F =>
    by_cases ho : s.op = 0#4
    · rw [event_of_encoded hw ho]; exact one (r := .okFrame F) nofun rfl
    · rw [event_of_packed hw ho]; exact afterSend (ofSend_ofAnswer _) (s.afterTransport F).releaseFrame

/-! ### Instructions -/

theorem onFrame {n : Nat} {f : Writer → Writer} (h : onFrame n f s = .next t) : AddsNoRangeError s t := by
  obtain ⟨F, -, -, rfl⟩ := onFrame_eq_next.1 h
  exact silent rfl

theorem execEncode {c : Byte} {p : List Byte} (h : execEncode c p s = .next t) : AddsNoRangeError s t := by
  obtain ⟨-, -, rfl⟩ := execEncode_next h
  split_ifs
  · exact one (r := .okFrame (encodeFrame c p)) nofun rfl
  · exact silent rfl

theorem execSend {c : Byte} {p : List Byte} (h : execSend c p s = .next t) : AddsNoRangeError s t := by
  obtain ⟨-, -, rfl⟩ := execSend_next h
  split_ifs
  · exact one (endsAsSends_sendOp c p (s.start 1#4)).1.ne_rangeError (by simp)
  · exact silent rfl

theorem execInit (h : execInit s = .next t) : AddsNoRangeError s t := by
  obtain ⟨-, -, rfl⟩ := execInit_next h
  split_ifs
  · exact one (ofSend_initFrom s.cfg.initTable 0 (s.start 2#4)).ne_rangeError (by simp)
  · exact initNext 0 (s.start 2#4)

theorem updateRequest (h : updateRequest s = .next t) : AddsNoRangeError s t := by
  obtain ⟨-, -, -, rfl⟩ := updateRequest_next h
  split_ifs
  · exact one (endsAsSends_updateOp (s.start 3#4)).1.ne_rangeError (by simp)
  · exact silent rfl

theorem execPbRead {off cnt : Nat} (h : execPbRead off cnt s = .next t) : AddsNoRangeError s t := by
  obtain ⟨-, rfl⟩ := execPbRead_next h
  exact one (r := .okBytes (s.readClipped off cnt)) nofun rfl

theorem execPbWrite {off : Nat} {data : List Byte} (h : execPbWrite off data s = .next t) : AddsNoRangeError s t := by
  rcases execPbWrite_next h with ⟨-, rfl⟩ | ⟨-, -, -, rfl⟩
  · exact one (pbWriteOp_ne_rangeError off data (s.start 5#4)) (by simp)
  · exact one (pbWriteOp_ne_rangeError off data s) (by simp)

theorem execShutdown (h : execShutdown s = .next t) : AddsNoRangeError s t := by
  obtain ⟨-, rfl⟩ := execShutdown_next h
  exact one (r := .ok) nofun rfl

/-- HOSTWRITE adds the write's result and, unless it was rejected, the update's (R145). -/
theorem execHostWrite {off : Nat} {data : List Byte} (h : execHostWrite off data s = .next t) :
    AddsNoRangeError s t := by
  obtain ⟨-, ⟨-, rfl⟩ | ⟨-, hupdate⟩⟩ := execHostWrite_next h
  · exact one (r := .offsetRejected) nofun (by simp)
  · exact trans (one (pbWriteOp_ne_rangeError off data (s.start 5#4)) (by simp)) (.updateRequest hupdate)

theorem execDecode {F : List Byte} (h : execDecode F s = .next t) : AddsNoRangeError s t := by
  unfold Machine.execDecode at h
  split at h
  · exact Host.Outcome.next.inj h ▸ one (r := .okDecoded _ _) nofun rfl
  · cases h

/-- An internal operation refused outside its limits adds what its effect adds. -/
theorem of_ite_refused {c : Prop} [Decidable c] {r : Refusal} {x : State}
    (h : (if c then (.next x : Reply) else .refused r) = .next t) (hx : AddsNoRangeError s x) :
    AddsNoRangeError s t := by
  split_ifs at h
  exact Host.Outcome.next.inj h ▸ hx

theorem deliver_sendOp (c : Byte) (p : List Byte) (s : State) :
    AddsNoRangeError s ((sendOp c p s).1.deliver (sendOp c p s).2) :=
  one (endsAsSends_sendOp c p s).1.ne_rangeError (by simp)

/-- No instruction but CHKGRAY returns RangeError (R147). -/
theorem exec {i : Instr} (hi : ∀ v, i ≠ .chkGray v) (h : exec i s = .next t) : AddsNoRangeError s t := by
  cases hu : unitOf s.cfg i with
  | some e => exact .onFrame ((exec_of_unitOf hu).symm.trans h)
  | none =>
    cases i with
    | encode c p => exact .execEncode h
    | send c p => exact .execSend h
    | init => exact .execInit h
    | update => exact .updateRequest h
    | pbRead off cnt => exact .execPbRead h
    | pbWrite off data => exact .execPbWrite h
    | chkGray v => exact absurd rfl (hi v)
    | shutdown => exact .execShutdown h
    | reservedHop x => cases h
    | writeBit b => exact .onFrame ((exec_writeBit b s).symm.trans h)
    | writeByte v => exact .onFrame ((exec_writeByte v s).symm.trans h)
    | writeUnit d v => exact .onFrame ((exec_writeUnit d v s).symm.trans h)
    | reformat => exact Host.Outcome.next.inj h ▸ silent rfl
    | setColWin => exact of_ite_refused h (deliver_sendOp _ _ s)
    | setRowWin => exact of_ite_refused h (deliver_sendOp _ _ s)
    | writeRam => exact of_ite_refused h (one (endsAsSends_writeRamOp s).1.ne_rangeError (by simp))
    | decode F => exact .execDecode h
    | hostWrite off data => exact .execHostWrite h
    | transportSend F =>
      exact Host.Outcome.next.inj h ▸ one (ofSend_ofAnswer (s.transportAnswer F)).ne_rangeError rfl
    | _ => simp [unitOf, Instr.command?] at hu

end AddsNoRangeError

end Sys2Proof.Machine
end

section
open Sys2Proof Sys2Proof.Machine

/-- Settles O34: an admitted read returns the bytes clipped to the PixelBuffer's end. -/
theorem pbReadReturnsTheBytesThatExist : Obligations.PbReadReturnsTheBytesThatExist := by
  intro s off cnt ha
  refine ⟨s.readClipped off cnt, (execPbRead_of_admits off cnt ha).trans (congrArg _ ?_), readClipped_of_beyond cnt,
    fun ho => ?_⟩
  · ext1 <;> simp [ha.2]
  · rw [readClipped_of_inside cnt ho]
    exact ⟨Memory.length_readBytes .., Memory.getD_readBytes _ _ _⟩

/-- Settles O35: an admitted write beyond the end writes its latches only, any other the first bytes of its data. -/
theorem pbWriteStoresUpToTheCapacity : Obligations.PbWriteStoresUpToTheCapacity := by
  intro s off data ha hq hwf
  have hexec : exec (.pbWrite off data) s = _ := execPbWrite_of_admits off data ha
  refine ⟨fun ho => ?_, fun ho => ⟨_, ?_, Memory.wf_writeBytes _ off hwf,
    Memory.read_writeBytes_take hwf data off (Nat.min_le_left ..)⟩⟩
  · rw [hexec, finish_pbWriteOp_of_beyond ha.2 ho]
  · rw [hexec, finish_pbWriteOp_of_inside ha.2 ho, if_neg (by simp [hq.uph])]

/-- Settles O39: HOSTWRITE inside the PixelBuffer requests an UPDATE from the state its PB_WRITE leaves, which is as
quiet and as ready as the one before. -/
theorem hostWriteIsAWriteThenAnUpdate : Obligations.HostWriteIsAWriteThenAnUpdate := by
  intro s off data ha
  refine ⟨fun ho => (execHostWrite_of_beyond ha ho).trans (congrArg _ (finish_pbWriteOp_of_beyond ha.2 ho)),
    fun ho => ?_⟩
  have hexec : exec (.hostWrite off data) s = exec .update _ := execHostWrite_of_inside ha ho
  refine ⟨_, execPbWrite_of_admits off data ha, hexec, ?_, fun hs hq hr hf => ?_⟩
  · rw [finish_pbWriteOp_of_inside ha.2 ho]
  · have hrun : RunsUpdate s := ⟨ha, hs, hq, hr, hf⟩
    obtain ⟨ha', hs', hq', hr', hf'⟩ := hrun.finish_pbWriteOp off data (pbWriteOp off data (s.start 5#4)).2
    obtain ⟨t, -, hupdate, -, -, -, hpb, hready, hquiet, -⟩ :=
      updateChangesNoArchitecturalState _ ha' hs' hq' hr' hf'
    exact ⟨t, hexec.trans hupdate, hpb, hready, hquiet⟩

/-- Settles O51: instructions and events in turn. -/
theorem onlyChkGrayReturnsRangeError : Obligations.OnlyChkGrayReturnsRangeError :=
  ⟨fun _ _ _ hi h => AddsNoRangeError.exec hi h, AddsNoRangeError.event⟩

/-- Settles O38: an admitted CHKGRAY latches the value and returns the result of the check. -/
theorem chkGrayChecksTheRange : Obligations.ChkGrayChecksTheRange := by
  intro s v ha
  refine (execChkGray_of_admits v ha).trans (congrArg _ ?_)
  ext1 <;> simp [ha.2, greyResult, Nat.lt_iff_add_one_le]

end

section
/-! SUPPORT. INIT as one transition, whatever its sends answer (41_send_and_init.md, 60_exceptions.md): the log, `SEQ`
and the host's side of the state. -/

namespace Sys2Proof.Machine

/-- INIT's loop makes one call of the transport per entry at most (R107). -/
theorem length_initFrom_tlog (table : List (Byte × List Byte)) :
    ∀ i s, (initFrom i table s).1.tlog.length ≤ s.tlog.length + table.length := by
  induction table with
  | nil => exact fun _ _ => Nat.le_refl _
  | cons e rest ih =>
    obtain ⟨c, p⟩ := e
    intro i s
    have hsend : (sendOp c p (s.setSeq (.sending i))).1.tlog.length ≤ s.tlog.length + 1 := (endsAsSends_sendOp ..).2
    rw [initFrom_cons, List.length_cons]
    split_ifs
    · exact (ih _ _).trans (by omega)
    · omega

/-- A loop of INIT that fails leaves `SEQ` at the entry whose send failed (R109). -/
theorem initFrom_seq_of_error (table : List (Byte × List Byte)) :
    ∀ i s, (initFrom i table s).2 ≠ .ok → ∃ k, (initFrom i table s).1.seq = .sending k := by
  induction table with
  | nil => exact fun _ _ h => absurd rfl h
  | cons e rest ih =>
    obtain ⟨c, p⟩ := e
    intro i s
    rw [initFrom_cons]
    split_ifs
    · exact ih _ _
    · exact fun _ => ⟨i, sendOp_seq ..⟩

/-- INIT concludes in Ready with OK, or in Failed with the error of a send (R108, R165). -/
theorem concludeInit_initFrom_seq (i : Nat) (table : List (Byte × List Byte)) (s : State) :
    (initFrom i table s).2 = .ok ∧ (concludeInit (initFrom i table s)).seq = .ready ∨
      (concludeInit (initFrom i table s)).seq = .failed ∧
        ((initFrom i table s).2 = .allocationError ∨ ∃ e, (initFrom i table s).2 = .transportError e) := by
  rcases ofSend_initFrom table i s with hok | herr
  · exact .inl ⟨hok, by rw [concludeInit_ok hok]; exact initFrom_seq_of_ok table i s hok⟩
  · have hne : (initFrom i table s).2 ≠ .ok := by rcases herr with h | ⟨e, h⟩ <;> simp [h]
    obtain ⟨k, hk⟩ := initFrom_seq_of_error table i s hne
    exact .inr ⟨by rw [concludeInit_error hne, State.raise_seq, hk], herr⟩

namespace HostSideKept

variable {s t : State}

theorem initFrom (h : HostSideKept s t) (i : Nat) (table : List (Byte × List Byte)) :
    HostSideKept s (initFrom i table t).1 :=
  initFrom_induct (P := HostSideKept s) (fun _ _ h => { h with }) (fun c p _ h => h.sendOp c p) table i t h

theorem concludeInit {r : State × Result} (h : HostSideKept s r.1) : HostSideKept s (concludeInit r) := by
  by_cases hr : r.2 = .ok
  · rw [concludeInit_ok hr]; exact { h with }
  · rw [concludeInit_error hr]; exact { h with }

end HostSideKept

end Sys2Proof.Machine
end

section
open Sys2Proof Sys2Proof.Machine

/-- Settles O20: INIT is its loop concluded, and the loop ends as its sends do, one per entry at most. -/
theorem initEndsReadyOrFailed : Obligations.InitEndsReadyOrFailed := by
  intro s ha hs hq hf
  have hexec : exec .init s = .next (concludeInit (initFrom 0 s.cfg.initTable (s.start 2#4))) :=
    (execInit_of_admits ha hf).trans (by rw [if_pos (List.isEmpty_iff.2 hs)])
  have hquiet : Quiet (concludeInit (initFrom 0 s.cfg.initTable (s.start 2#4))) :=
    quiet_concludeInit (s := s.start 2#4) { hq.noBuffers with } hq.uph _
  have hstart : HostSideKept s (s.start 2#4) := ⟨rfl, rfl, rfl, rfl, rfl⟩
  obtain ⟨hoff, hcnt, hval, hport, -⟩ := (hstart.initFrom 0 s.cfg.initTable).concludeInit
  refine ⟨_, _, hexec, ?_, concludeInit_initFrom_seq .., hquiet, ?_, ?_, hoff, hcnt, hval, hport, ?_⟩
  · rw [concludeInit_returned, initFrom_returned]; rfl
  · rw [concludeInit_cfg, initFrom_cfg]; rfl
  · rw [concludeInit_pb, initFrom_pb]; rfl
  · rw [concludeInit_tlog]
    exact length_initFrom_tlog s.cfg.initTable 0 (s.start 2#4)

end

section
/-! SUPPORT. What admission stops (60_exceptions.md R172, 70_reset_and_hazards.md R200): a host operation that admission
refuses is refused for admission's reason, whatever its own checks would say. -/

namespace Sys2Proof.Machine

variable {s : State} {r : Refusal}

/-- PB_WRITE alone can be served by a busy block: not when no UPDATE is in progress to overlap (R25, R200). -/
theorem execPbWrite_of_admission (off : Nat) (data : List Byte) (h : s.admission = some r)
    (hu : r = .busy → s.uph = .none) : execPbWrite off data s = .refused r := by
  unfold execPbWrite
  split
  case h_1 ha =>
    obtain rfl : r = .busy := Option.some.inj (h.symm.trans ha)
    exact if_pos (hu rfl)
  case h_2 ha => exact congrArg _ (Option.some.inj (ha.symm.trans h))
  case h_3 ha => cases h.symm.trans ha

/-- The host port passes on admission's reason, for every selector that has a meaning (R72, R172). -/
theorem exec_decodeHost_of_admission {q : HostReq} (hq : q.op.toNat < 8) (h : s.admission = some r)
    (hu : q.op.toNat = 5 → r = .busy → s.uph = .none) : exec (decodeHost q) s = .refused r := by
  unfold decodeHost
  split
  · simp only [exec, execEncode, h]
  · simp only [exec, execSend, h]
  · simp only [exec, execInit, h]
  · simp only [exec, execUpdate, updateRequest, h]
  · simp only [exec, execPbRead, h]
  · next hop => exact execPbWrite_of_admission q.off q.payload h (hu hop)
  · simp only [exec, execChkGray, h]
  · simp only [exec, execShutdown, h]
  · simp only [imp_false] at *
    omega

end Sys2Proof.Machine
end

section
open Sys2Proof Sys2Proof.Machine

/-- Settles O41: admission names the configuration first, then `BUSY`, and only a PB_WRITE over an UPDATE passes it. -/
theorem busyOrMisconfiguredBlocksRefuse : Obligations.BusyOrMisconfiguredBlocksRefuse := fun _ _ hq =>
  ⟨fun hv => exec_decodeHost_of_admission hq (admission_badConfig hv) (fun _ => nofun),
    fun hv hb hu => exec_decodeHost_of_admission hq (admission_busy hv hb) (fun hop _ => hu.resolve_left (absurd hop))⟩

end
